-- ==== Sys2Proof/Word.lean ====
section
/-! DEFINITION. The words of the block: bytes, 32-bit registers, 48-bit frames (spec/00_scope.md R7, R10). -/

namespace Sys2Proof

/-- `u8` of R10: what one bus exchange moves (R216). -/
abbrev Byte := BitVec 8

/-- `u32` of R10: a host register, a frame argument, a card block address (R7). -/
abbrev Word := BitVec 32

/-- A command frame seen as one 48-bit value F, F[47:40] = byte 0 (R301). -/
abbrev FrameWord := BitVec 48

/-- An offset of the 1024-byte host port (R110, R204): ten bits, so no access can name a byte outside it. -/
abbrev Offset := BitVec 10

/-- `zext_32` of a byte (R10). -/
def Byte.zext (b : Byte) : Word := b.setWidth 32

end Sys2Proof
end

