-- ==== Sys2Proof/Config.lean ====
section
/-! DEFINITION. The implementation parameters of spec/00_scope.md R6, and the model's free values. -/

namespace Sys2Proof

/-- How the SEND_OP_COND response is judged (R6 OPCOND_POLARITY, R478). -/
inductive Polarity where
  | protocol
  | reference
deriving DecidableEq, Repr

/-- FRAME_CRC (R6, R304): a function from the 6-bit index to byte 5 of the frame, held as plain data: the indices
listed with a byte of their own, and the byte of every other index. -/
structure FrameCrc where
  listed : List (BitVec 6 × Byte)
  other : Byte
deriving DecidableEq, Repr

/-- The bus clock-rate select (R103). -/
inductive ClockRate where
  | slow
  | fast
deriving DecidableEq, Repr

/-- The parameters of R6, one field a row of its table but for the two clock rates, which are Config.clockHz (log 19).
They are configuration, not state (R101): State carries them so that the model is stated for every admissible value,
and no step changes them. -/
structure Params where
  /-- N_POWERUP_DUMMY -/
  nPowerupDummy : Nat
  /-- N_PRE_DUMMY -/
  nPreDummy : Nat
  /-- N_POST_DUMMY -/
  nPostDummy : Nat
  /-- FRAME_CRC -/
  frameCrc : FrameCrc
  /-- WRITE_DATA_CRC[0] -/
  writeCrc0 : Byte
  /-- WRITE_DATA_CRC[1] -/
  writeCrc1 : Byte
  /-- R1_POLL_LIMIT -/
  r1PollLimit : Nat
  /-- TOKEN_POLL_LIMIT -/
  tokenPollLimit : Nat
  /-- DRESP_POLL_LIMIT -/
  drespPollLimit : Nat
  /-- BUSY_POLL_LIMIT -/
  busyPollLimit : Nat
  /-- OPCOND_RETRY_LIMIT -/
  opcondRetryLimit : Nat
  /-- OPCOND_POLARITY -/
  opcondPolarity : Polarity
  /-- STRICT_INIT -/
  strictInit : Bool
  /-- N_READ_TRAILER -/
  nReadTrailer : Nat
  /-- WRITE_BUSY_WAIT -/
  writeBusyWait : Bool
  /-- RAISE_CLOCK -/
  raiseClock : Bool
deriving DecidableEq, Repr

namespace Config

/-! The OPEN parameters of R6: constants with no body, so that a statement about this hardware holds for every
admissible value. -/

opaque openTokenPoll : Nat
opaque openDrespPoll : Nat
opaque openBusyPoll : Nat
opaque openOpcondRetry : Nat

/-- F_SLOW_HZ and F_FAST_HZ: any two positive reals. No rule depends on them, and nothing reads them (log 19). -/
noncomputable opaque clockHz : ClockRate → { hz : ℝ // 0 < hz }

/-! The free values (spec/93_implementation_defined.md part 1, treatments `any value` and `oracle`). The first
argument is the draw counter of State, the second the place the value is drawn for. -/

/-- What the card side answers to an exchange that no listed answer of State.card covers: a byte, or the failure of
the transport (R8, U11). -/
opaque cardAnswer : Nat → Option Byte

/-- What a register whose reset value is unspecified holds after a reset (R135, U1). -/
opaque resetWord : Nat → Nat → Word

/-- What a buffer byte that holds no value reads as (R135, R613, U1, U9, U10). -/
opaque freeByte : Nat → Nat → Byte

/-- The value a host read gets while BUSY = 1, or from an ill-formed access (R213, R215, U6, U8). -/
opaque readWord : Nat → Nat → Word

/-- The default FRAME_CRC table (R6, R304). -/
def defaultFrameCrc : FrameCrc := { listed := [(0, 0x95), (8, 0x87)], other := 0x01 }

/-- This hardware: the defaults of R6, its OPEN parameters free within their ranges. -/
def thisHardware : Params where
  nPowerupDummy := 10
  nPreDummy := 1
  nPostDummy := 1
  frameCrc := defaultFrameCrc
  writeCrc0 := 0xFF
  writeCrc1 := 0xFF
  r1PollLimit := 8
  tokenPollLimit := openTokenPoll + 1
  drespPollLimit := openDrespPoll + 1
  busyPollLimit := openBusyPoll + 1
  opcondRetryLimit := openOpcondRetry + 1
  opcondPolarity := .protocol
  strictInit := false
  nReadTrailer := 0
  writeBusyWait := true
  raiseClock := true

/-- The example configuration EX of R6, which spec/95_test_vectors.md uses. -/
def ex : Params :=
  { thisHardware with
    tokenPollLimit := 8, drespPollLimit := 8, busyPollLimit := 8, opcondRetryLimit := 4 }

end Config

/-- FRAME_CRC(idx) (R304): fixed per index, never computed from an argument or from bus data. -/
def FrameCrc.lookup (c : FrameCrc) (idx : BitVec 6) : Byte :=
  match c.listed.find? (fun e => e.1 == idx) with
  | some e => e.2
  | none => c.other

end Sys2Proof
end

