-- ==== Sys2Proof/Syntax.lean ====
section
/-! DEFINITION. The two instruction forms of the block (spec/30_encoding.md, spec/opcode_table.json): the five host
requests and the eight command frames; and the host programs of R325, which present requests to the block. -/

namespace Sys2Proof

/-- One constructor per row of spec/opcode_table.json. A request has no operand in its word (R322); a frame carries
an argument only where the table leaves argument bits open (CMD17, CMD24: the card block address). -/
inductive Instr where
  /-- INIT, request 0x01 (R471) -/
  | init
  /-- READ_BLOCK, request 0x02 (R501) -/
  | readBlock
  /-- WRITE_BLOCK, request 0x03 (R511) -/
  | writeBlock
  /-- READ_CSD, request 0x04 (R531) -/
  | readCsd
  /-- GET_CAPACITY, request 0x05 (R541) -/
  | getCapacity
  /-- CMD0, RESET (R403) -/
  | cmd0
  /-- CMD8, SEND_VOLTAGE/INTERFACE_CONDITION (R404) -/
  | cmd8
  /-- CMD55, APP_CMD_PREFIX (R405) -/
  | cmd55
  /-- ACMD41, SEND_OP_COND (R406) -/
  | acmd41
  /-- CMD17, READ_SINGLE_BLOCK of block address `a` (R407) -/
  | cmd17 (a : Word)
  /-- CMD24, WRITE_SINGLE_BLOCK of block address `a` (R408) -/
  | cmd24 (a : Word)
  /-- CMD58, READ_OCR (R409) -/
  | cmd58
  /-- CMD9, READ_CSD (R410) -/
  | cmd9
deriving DecidableEq, Repr

/-- The eight commands by name (R305): what the sequencer's position records of the transaction it is in. -/
inductive Cmd where
  | cmd0 | cmd8 | cmd55 | acmd41 | cmd17 | cmd24 | cmd58 | cmd9
deriving DecidableEq, Repr

/-- The width of a host access, 8 or 32 bits (R210). -/
inductive Width where
  | byte
  | word
deriving DecidableEq, Repr

/-- One line of a host program after assembly (R325). A branch target is a line number. -/
inductive HostLine where
  /-- `RD8 off`, `RD32 off` -/
  | rd (w : Width) (off : Offset)
  /-- `WR8 off, v` (the low byte of `v`), `WR32 off, v` -/
  | wr (w : Width) (off : Offset) (v : Word)
  /-- `WAIT_IDLE` -/
  | waitIdle
  /-- `BERR label` -/
  | berr (target : Nat)
  /-- `B label` -/
  | branch (target : Nat)
  /-- `HALT` -/
  | halt
deriving DecidableEq, Repr

/-- One line of a host program as R325 writes it: a label is a number of the program's own. -/
inductive SourceLine where
  | rd8 (off : Offset)
  | rd32 (off : Offset)
  | wr8 (off : Offset) (v : Byte)
  | wr32 (off : Offset) (v : Word)
  | waitIdle
  | init
  | readBlock (a : Word)
  | writeBlock (a : Word)
  | readCsd
  | getCapacity
  | fill (v : Byte)
  | berr (label : Nat)
  | branch (label : Nat)
  | label (name : Nat)
  | halt
deriving DecidableEq, Repr

end Sys2Proof
end

