-- ==== Sys2Proof/WellFormed.lean ====
section
/-! DEFINITION. What may stand in an instruction, a configuration and a host program. -/

namespace Sys2Proof

/-- Every instruction term is one the block can emit or accept: a request has no operand, and every 32-bit block
address is framed (R203, R225, R322). -/
def Instr.wf : Instr → Bool
  | .init | .readBlock | .writeBlock | .readCsd | .getCapacity => true
  | .cmd0 | .cmd8 | .cmd55 | .acmd41 | .cmd58 | .cmd9 => true
  | .cmd17 _ | .cmd24 _ => true

/-- FRAME_CRC's range (R6, R301): the end bit, bit 0, of every CRC byte is 1. -/
def FrameCrc.wf (c : FrameCrc) : Bool :=
  c.other.getLsbD 0 && c.listed.all (fun e => e.2.getLsbD 0)

/-- The ranges of R6's table: the limits are at least 1, the CRC bytes end in a 1. -/
def Params.wf (p : Params) : Bool :=
  p.frameCrc.wf &&
  decide (1 ≤ p.r1PollLimit) && decide (1 ≤ p.tokenPollLimit) && decide (1 ≤ p.drespPollLimit) &&
  decide (1 ≤ p.busyPollLimit) &&
  decide (1 ≤ p.opcondRetryLimit)

/-- A line of a program of `n` lines names a line of it, or the position right after its last (R325). -/
def HostLine.wf (n : Nat) : HostLine → Bool
  | .berr t => decide (t ≤ n)
  | .branch t => decide (t ≤ n)
  | .rd _ _ | .wr _ _ _ | .waitIdle | .halt => true

/-- A host program whose every branch stays inside it. -/
def hostProgramWf (p : List HostLine) : Bool := p.all (HostLine.wf p.length)

end Sys2Proof
end

