-- ==== Sys2Proof/Decode.lean ====
section
/-! DEFINITION. Decoding and encoding (spec/30_encoding.md): request opcodes, command frames, and the numbering of
spec/opcode_table.json. -/

namespace Sys2Proof

/-- Why bytes are no instruction. -/
inductive DecodeError where
  /-- neither one opcode byte nor the six bytes of a frame (R301, R324) -/
  | wrongLength
  /-- opcode 0x00 or 0x06 to 0xFF (R323) -/
  | reservedOpcode
  /-- the start and transmission bits are not 0 and 1 (R301, R302) -/
  | notAFrame
  /-- an index the block never emits (R305) -/
  | unknownIndex
  /-- an emitted index with another argument than its fixed one (R403 to R410) -/
  | wrongArgument
deriving DecidableEq, Repr

/-! ### Request opcodes (R321) -/

def opInit : Byte := 0x01
def opReadBlock : Byte := 0x02
def opWriteBlock : Byte := 0x03
def opReadCsd : Byte := 0x04
def opGetCapacity : Byte := 0x05

/-- R321, R323: the opcode selects the request; every other opcode is reserved. -/
def decodeOpcode (op : Byte) : Except DecodeError Instr :=
  if op = opInit then .ok .init
  else if op = opReadBlock then .ok .readBlock
  else if op = opWriteBlock then .ok .writeBlock
  else if op = opReadCsd then .ok .readCsd
  else if op = opGetCapacity then .ok .getCapacity
  else .error .reservedOpcode

/-- R111: a value written to REQ presents the request in bits 7:0; bits 31:8 are ignored. -/
def decodeRequest (v : Word) : Except DecodeError Instr := decodeOpcode (v.extractLsb' 0 8)

/-! ### Command frames (R301 to R305) -/

/-- The index column of R305. -/
def Cmd.index : Cmd → BitVec 6
  | .cmd0 => 0
  | .cmd8 => 8
  | .cmd55 => 55
  | .acmd41 => 41
  | .cmd17 => 17
  | .cmd24 => 24
  | .cmd58 => 58
  | .cmd9 => 9

/-- The argument column of R305; `a` is the block address of the two block commands. -/
def Cmd.argument (a : Word) : Cmd → Word
  | .cmd0 => 0
  | .cmd8 => 0x000001AA
  | .cmd55 => 0
  | .acmd41 => 0x40000000
  | .cmd17 => a
  | .cmd24 => a
  | .cmd58 => 0
  | .cmd9 => 0

/-- The frame instruction of a command. -/
def Cmd.instr (a : Word) : Cmd → Instr
  | .cmd0 => .cmd0
  | .cmd8 => .cmd8
  | .cmd55 => .cmd55
  | .acmd41 => .acmd41
  | .cmd17 => .cmd17 a
  | .cmd24 => .cmd24 a
  | .cmd58 => .cmd58
  | .cmd9 => .cmd9

/-- The frame assembler `Frame(idx, arg)` (R401), as the 48-bit value F of R301: 0x40 | idx, the argument
big-endian, FRAME_CRC(idx). -/
def assembleFrame (crc : FrameCrc) (idx : BitVec 6) (arg : Word) : FrameWord :=
  ((0x40#8 ||| idx.setWidth 8).setWidth 48 <<< 40) ||| (arg.setWidth 48 <<< 8) ||| (crc.lookup idx).setWidth 48

/-- Byte `j` of a frame, byte 0 first on the bus (R11, R301). -/
def frameByte (f : FrameWord) (j : Nat) : Byte := f.extractLsb' (40 - 8 * j) 8

/-- The six bytes of a frame in bus order (R301). -/
def frameBytes (f : FrameWord) : List Byte :=
  [frameByte f 0, frameByte f 1, frameByte f 2, frameByte f 3, frameByte f 4, frameByte f 5]

/-- Six bytes in bus order as the 48-bit value F (R301). -/
def frameOfBytes (b0 b1 b2 b3 b4 b5 : Byte) : FrameWord :=
  (b0.setWidth 48 <<< 40) ||| (b1.setWidth 48 <<< 32) ||| (b2.setWidth 48 <<< 24) |||
  (b3.setWidth 48 <<< 16) ||| (b4.setWidth 48 <<< 8) ||| b5.setWidth 48

/-- A command whose argument is fixed: a frame of its index with another argument is none of its frames. -/
def fixedArgument (want arg : Word) (i : Instr) : Except DecodeError Instr :=
  if arg = want then .ok i else .error .wrongArgument

/-- R305, R326: a frame is read from its two high bits, its index and its argument; the CRC byte is a parameter and
never matched. -/
def decodeFrame (f : FrameWord) : Except DecodeError Instr :=
  if f.extractLsb' 46 2 ≠ 0b01#2 then .error .notAFrame
  else
    let idx : BitVec 6 := f.extractLsb' 40 6
    let arg : Word := f.extractLsb' 8 32
    if idx = 0 then fixedArgument 0 arg .cmd0
    else if idx = 8 then fixedArgument 0x000001AA arg .cmd8
    else if idx = 55 then fixedArgument 0 arg .cmd55
    else if idx = 41 then fixedArgument 0x40000000 arg .acmd41
    else if idx = 17 then .ok (.cmd17 arg)
    else if idx = 24 then .ok (.cmd24 arg)
    else if idx = 58 then fixedArgument 0 arg .cmd58
    else if idx = 9 then fixedArgument 0 arg .cmd9
    else .error .unknownIndex

/-- The decoder on bytes, total: one byte is a request opcode, six bytes are a frame, byte 0 first (R324). -/
def decode : List Byte → Except DecodeError Instr
  | [op] => decodeOpcode op
  | [b0, b1, b2, b3, b4, b5] => decodeFrame (frameOfBytes b0 b1 b2 b3 b4 b5)
  | _ => .error .wrongLength

/-- The row numbering of spec/opcode_table.json (R326): a request row is the opcode in bits 7:0 of the REQ word; a
frame row is F[47:0], F[47:40] the byte sent first. -/
def decodeTableWord (nbits w : Nat) : Option Instr :=
  if nbits ≤ 32 then (decodeRequest (BitVec.ofNat 32 w)).toOption
  else if nbits = 48 then (decodeFrame (BitVec.ofNat 48 w)).toOption
  else none

/-! ### Encoding -/

/-- The request opcode of a request (R321); none for a frame. -/
def Instr.opcode : Instr → Option Byte
  | .init => some opInit
  | .readBlock => some opReadBlock
  | .writeBlock => some opWriteBlock
  | .readCsd => some opReadCsd
  | .getCapacity => some opGetCapacity
  | .cmd0 | .cmd8 | .cmd55 | .acmd41 | .cmd17 _ | .cmd24 _ | .cmd58 | .cmd9 => none

/-- The bytes of an instruction: the opcode byte of a request (R321), the six bytes of a frame (R403 to R410) with
the CRC byte of the configuration. -/
def encode (crc : FrameCrc) : Instr → List Byte
  | .init => [0x01]
  | .readBlock => [0x02]
  | .writeBlock => [0x03]
  | .readCsd => [0x04]
  | .getCapacity => [0x05]
  | .cmd0 => frameBytes (assembleFrame crc 0 0)
  | .cmd8 => frameBytes (assembleFrame crc 8 0x000001AA)
  | .cmd55 => frameBytes (assembleFrame crc 55 0)
  | .acmd41 => frameBytes (assembleFrame crc 41 0x40000000)
  | .cmd17 a => frameBytes (assembleFrame crc 17 a)
  | .cmd24 a => frameBytes (assembleFrame crc 24 a)
  | .cmd58 => frameBytes (assembleFrame crc 58 0)
  | .cmd9 => frameBytes (assembleFrame crc 9 0)

end Sys2Proof
end

