-- ==== Sys2Proof/Machine/State.lean ====
section
/-! DEFINITION. The state of the block (spec/10_state.md, spec/20_memory.md), what its two environments hold
(the host's program, the card side's answers), the reasons a step stops, and reset. -/

namespace Sys2Proof.Machine

/-- The STATE codes of R131; codes 10 to 15 are never produced. -/
inductive SeqState where
  | uninit | reset | voltageCheck | appCmdPrefixSent | operatingConditionPoll | readOcr | ready
  | xferReadBlock | xferWriteBlock | xferReadCsd
deriving DecidableEq, Repr

/-- The ERR codes of R601; codes 6 to 15 are never produced. -/
inductive ErrCode where
  | none | busError | deviceNotResponding | initializationFailed | writeRejected | requestRefused
deriving DecidableEq, Repr

/-- What ERR_CAUSE says (R602); the three uses of one number are three names. -/
inductive ErrCause where
  | none
  | innerBusError | innerDeviceNotResponding | innerUnexpectedResponse
  | crcError | writeError | otherStatus
  | reservedOp | notInitialized | alreadyInitialized
deriving DecidableEq, Repr

/-- The bounded waits ERR_SITE names (R603). -/
inductive ErrSite where
  | none | r1Poll | tokenPoll | drespPoll | busyPoll | opcondRetry
deriving DecidableEq, Repr

/-- The errors a request raises (R604 to R608), each with its info. -/
inductive Error where
  | busError
  | deviceNotResponding (site : ErrSite)
  | writeRejected (token : Byte)
  | unexpectedResponse
deriving DecidableEq, Repr

/-- The events of R12 and the reset marker of R701. A failed exchange has no answer (X(o, ⊥)). -/
inductive BusEvent where
  | cs (level : Bool)
  | clk (rate : ClockRate)
  | xfer (out : Byte) (answer : Option Byte)
  | rst
deriving DecidableEq, Repr

/-- The sequencer's phase (R130): the line of the running request's pseudocode whose bus event comes next, with the
loop counters (R133: `k` of a bounded wait or dummy loop, from 1; `i`, the byte index of a data phase, from 0) and the
pseudocode's local values (`j` and `v` of Read4, `r` of Txn). `c` is the command of the running transaction. -/
inductive Phase where
  /-- no request runs -/
  | idle
  /-- Preamble: `ClkSet(SLOW)` (R437) -/
  | clkSlow
  /-- Preamble: `CsSet(1)` (R437) -/
  | preambleCs
  /-- Preamble: dummy byte `k` (R437) -/
  | powerDummy (k : Nat)
  /-- Begin: `CsSet(0)` (R433) -/
  | select (c : Cmd)
  /-- Begin: dummy byte `k` (R433) -/
  | preDummy (c : Cmd) (k : Nat)
  /-- SendFrame: the assembled frame `f` stands ready, no byte of it sent (R401, R402) -/
  | issue (f : FrameWord)
  /-- SendFrame: bytes 0 to `j - 1` of `f` are sent, byte `j` is next (R402) -/
  | frame (c : Cmd) (f : FrameWord) (j : Nat)
  /-- PollR1, byte `k` (R442) -/
  | pollR1 (c : Cmd) (k : Nat)
  /-- Read4, byte `j`, with `v` assembled so far (R446) -/
  | readFour (c : Cmd) (j : Nat) (v : Word)
  /-- PollToken, byte `k` (R443) -/
  | pollToken (c : Cmd) (k : Nat)
  /-- ReadInto, the byte of index `i` (R447, R502, R532) -/
  | readData (c : Cmd) (i : Nat)
  /-- trailer byte `j` (R503) -/
  | trailer (c : Cmd) (j : Nat)
  /-- WRITE_BLOCK: the data-start token (R511) -/
  | sendToken
  /-- WRITE_BLOCK: BUF[i] (R511) -/
  | sendData (i : Nat)
  /-- WRITE_BLOCK: WRITE_DATA_CRC[0] (R511) -/
  | sendCrc0
  /-- WRITE_BLOCK: WRITE_DATA_CRC[1] (R511) -/
  | sendCrc1
  /-- PollDataResponse, byte `k` (R444) -/
  | pollDresp (k : Nat)
  /-- PollNotBusy, byte `k` (R445) -/
  | pollBusy (k : Nat)
  /-- End: `CsSet(1)`, the tail's result `r` waiting to be returned (R432, R434) -/
  | deselect (c : Cmd) (r : Option Byte)
  /-- End: dummy byte `k` (R434) -/
  | postDummy (c : Cmd) (r : Option Byte) (k : Nat)
  /-- INIT: `ClkSet(FAST)` (R479) -/
  | clkFast
  /-- ErrorExit: `CsSet(1)` (R612) -/
  | errorExit
deriving DecidableEq, Repr

/-- Whose move the next step is: the host's, the controller's, or the platform's reset input (R8, R701). -/
inductive Turn where
  | host
  | controller
  | platformReset
deriving DecidableEq, Repr

/-- What a host read returned (R211). -/
structure Reply where
  off : Offset
  value : Word
deriving DecidableEq, Repr

/-- The bytes of BUF and CSD that hold a value, keyed by their host-port offset (R201, R202, R110), addresses strictly
rising. A byte that is not listed holds no value (R135): reading it gives a draw. -/
abbrev Memory := List Host.Cell

/-- The state of the block (R101), its configuration, and the model's own fields. -/
structure State where
  /-- configuration (R6); no step changes it -/
  cfg : Params
  /-- R102: chip-select output, true = level 1 = deselected -/
  csN : Bool
  /-- R103 -/
  clkSel : ClockRate
  /-- R104 -/
  r1 : Byte
  /-- R105 -/
  r7 : Word
  /-- R105 -/
  ocr : Word
  /-- R106 -/
  dresp : Byte
  /-- R107 -/
  csize : BitVec 22
  /-- R107 -/
  capKib : Word
  /-- R133 `n`, the SEND_OP_COND attempts of the current or last INIT, which is the value of OPCOND_ATTEMPTS (R108):
  the 32-bit register is State.opcondAttempts (log 4) -/
  attempts : Nat
  /-- R109 -/
  addr : Word
  /-- R114 -/
  busy : Bool
  /-- R113 -/
  ready : Bool
  /-- R115 -/
  bufValid : Bool
  /-- R116 -/
  csdValid : Bool
  /-- R117 -/
  capValid : Bool
  /-- R121 -/
  hostViolation : Bool
  /-- the model's own sticky refusal mark (R622): a host violation has happened in this run; nothing clears it -/
  refusalMark : Bool
  /-- R118, R601 -/
  err : ErrCode
  /-- R118, R602 -/
  errCause : ErrCause
  /-- R118, R603 -/
  errSite : ErrSite
  /-- R118; code 0 when ERR = 0 (R112) -/
  errState : SeqState
  /-- R131, STATUS.STATE -/
  seqState : SeqState
  /-- R130, R133 -/
  phase : Phase
  /-- R132 -/
  opLat : Byte
  /-- R132 -/
  aLat : Word
  /-- R201, R202: BUF at 0x200, CSD at 0x100 -/
  mem : Memory
  /-- the bus-event trace (R12, R13), oldest first -/
  trace : List BusEvent
  /-- the card side's coming answers (R8), `none` a transport failure; past its end Config.cardAnswer answers -/
  card : List (Option Byte)
  /-- the model's own draw counter: the index of the next free value -/
  draws : Nat
  /-- the host's program (R325), loaded from outside -/
  program : List HostLine
  /-- the host's position in its program -/
  hpc : Nat
  /-- whose moves come next (R8); past its end the controller moves while BUSY = 1, else the host -/
  turns : List Turn
  /-- what the host's reads returned, oldest first (R211) -/
  replies : List Reply
deriving DecidableEq, Repr

/-- Why the machine stops with a fault. -/
inductive Fault where
  /-- raised by `step` alone, in a state whose sequencer is about to send a 48-bit value that is no frame of the
  command table (R305, R411); no assembled frame is one, so no run from reset gets there; safe -/
  | notAFrame
deriving DecidableEq, Repr

/-- Why the model gives no meaning. -/
inductive Refusal where
  /-- raised by `exec` for an instruction with no meaning yet; safe -/
  | notModelled (mnemonic : String)
  /-- raised by `step` alone, in a state whose refusal mark is set: a model gives the run no meaning beyond a host
  violation (R622, D22, U6, U7); safe -/
  | hostViolation
deriving DecidableEq, Repr

/-- The value a register of `w` bits holds after a reset that leaves it unspecified (R135, U1): free, one value per
draw index and register. The place of a host-readable register is its host-port offset. -/
def resetReg (w d place : Nat) : BitVec w := (Config.resetWord d place).setWidth w

/-- The state right after a reset that takes the draws of index `d` (R135, R701), with nothing of the host, the card
side or the trace in it. -/
def State.resetAt (cfg : Params) (d : Nat) : State where
  cfg := cfg
  csN := true
  clkSel := .slow
  r1 := resetReg 8 d 0x00C
  r7 := resetReg 32 d 0x010
  ocr := resetReg 32 d 0x014
  dresp := resetReg 8 d 0x018
  csize := resetReg 22 d 0x01C
  capKib := resetReg 32 d 0x020
  attempts := (resetReg 32 d 0x024).toNat
  addr := resetReg 32 d 0x004
  busy := false
  ready := false
  bufValid := false
  csdValid := false
  capValid := false
  hostViolation := false
  refusalMark := false
  err := .none
  errCause := .none
  errSite := .none
  errState := .uninit
  seqState := .uninit
  phase := .idle
  opLat := resetReg 8 d 0x400
  aLat := resetReg 32 d 0x404
  mem := []
  trace := []
  card := []
  draws := d + 1
  program := []
  hpc := 0
  turns := []
  replies := []

/-- The machine right after power-on reset (R135, R703). -/
def State.reset : State := State.resetAt Config.thisHardware 0

end Sys2Proof.Machine
end

