-- ==== Sys2Proof/Machine/Memory.lean ====
section
/-! DEFINITION. The one representation of the buffers' bytes and its operations (spec/20_memory.md R201, R202). -/

namespace Sys2Proof.Machine

/-- Host-port offset of CSD[0] (R110). -/
def csdBase : Nat := 0x100
/-- R202 -/
def csdSize : Nat := 16
/-- Host-port offset of BUF[0] (R110). -/
def bufBase : Nat := 0x200
/-- R201 -/
def bufSize : Nat := 512

/-- The canonical form: addresses strictly rising, so one entry an address. What an unlisted address holds is no value
at all (R135), which no entry can equal. -/
abbrev Memory.wf (m : Memory) : Prop := m.Pairwise (fun a b => a.1 < b.1)

/-- The value held at an address, or none. -/
def Memory.read (m : Memory) (a : Nat) : Option Byte :=
  match m with
  | [] => none
  | c :: rest => if c.1 = a then some c.2 else Memory.read rest a

/-- Store one byte, in address order. -/
def Memory.write (m : Memory) (a : Nat) (b : Byte) : Memory :=
  match m with
  | [] => [(a, b)]
  | c :: rest =>
    if a < c.1 then (a, b) :: c :: rest
    else if a = c.1 then (a, b) :: rest
    else c :: Memory.write rest a b

/-- Take the value from every byte of the `n` addresses from `base` on (R613: each is then a draw). -/
def Memory.forget (m : Memory) (base n : Nat) : Memory :=
  m.filter (fun c => decide (c.1 < base ∨ base + n ≤ c.1))

/-- Every listed address is a byte of CSD or of BUF (R204). -/
abbrev Memory.inWindows (m : Memory) : Prop :=
  ∀ c ∈ m, (csdBase ≤ c.1 ∧ c.1 < csdBase + csdSize) ∨ (bufBase ≤ c.1 ∧ c.1 < bufBase + bufSize)

/-- All `n` bytes from `base` on hold a value. -/
abbrev Memory.holds (m : Memory) (base n : Nat) : Prop :=
  ∀ i, i < n → (m.read (base + i)).isSome = true

/-- The value an address holds (none: it holds none since reset, or since a failed fill). -/
def State.byteAt (s : State) (a : Nat) : Option Byte := s.mem.read a

/-- What a read of a buffer byte gives: the value it holds, else a draw (R135, R211). The draw of one address is the
same until a step of the controller intervenes (R211). -/
def State.readByte (s : State) (a : Nat) : Byte := (s.byteAt a).getD (Config.freeByte s.draws a)

/-- Store one byte into CSD or BUF. -/
def State.writeByte (s : State) (a : Nat) (b : Byte) : State := { s with mem := s.mem.write a b }

end Sys2Proof.Machine
end

