-- ==== Sys2Proof/Machine/Flags.lean ====
section
/-! DEFINITION. The STATUS register and its codes (spec/10_state.md R112, spec/60_exceptions.md R601 to R603), and the
tests the block makes on bytes the card sends (spec/30_encoding.md R311 to R316). -/

namespace Sys2Proof.Machine

/-- R131 -/
def SeqState.code : SeqState → BitVec 4
  | .uninit => 0
  | .reset => 1
  | .voltageCheck => 2
  | .appCmdPrefixSent => 3
  | .operatingConditionPoll => 4
  | .readOcr => 5
  | .ready => 6
  | .xferReadBlock => 7
  | .xferWriteBlock => 8
  | .xferReadCsd => 9

/-- R601 -/
def ErrCode.code : ErrCode → BitVec 4
  | .none => 0
  | .busError => 1
  | .deviceNotResponding => 2
  | .initializationFailed => 3
  | .writeRejected => 4
  | .requestRefused => 5

/-- R602 -/
def ErrCause.code : ErrCause → BitVec 4
  | .none => 0
  | .innerBusError => 1
  | .innerDeviceNotResponding => 2
  | .innerUnexpectedResponse => 3
  | .crcError => 1
  | .writeError => 2
  | .otherStatus => 15
  | .reservedOp => 1
  | .notInitialized => 2
  | .alreadyInitialized => 3

/-- R603 -/
def ErrSite.code : ErrSite → BitVec 4
  | .none => 0
  | .r1Poll => 1
  | .tokenPoll => 2
  | .drespPoll => 3
  | .busyPoll => 4
  | .opcondRetry => 5

/-- STATUS.CLK_FAST (R103). -/
def State.clkFast (s : State) : Bool := decide (s.clkSel = .fast)

/-- STATUS.CS_ACTIVE, `1 - cs_n` (R102). -/
def State.csActive (s : State) : Bool := !s.csN

/-- A field of STATUS at its place: `v` in the bits from `lo` up. -/
def placed {n : Nat} (lo : Nat) (v : BitVec n) : Word := v.setWidth 32 <<< lo

/-- The STATUS word (R112); bits 31:28 read 0. -/
def statusWord (s : State) : Word :=
  placed 0 (BitVec.ofBool s.busy) ||| placed 1 (BitVec.ofBool s.ready) ||| placed 2 (BitVec.ofBool s.bufValid) |||
  placed 3 (BitVec.ofBool s.csdValid) ||| placed 4 (BitVec.ofBool s.capValid) ||| placed 5 (BitVec.ofBool s.clkFast) |||
  placed 6 (BitVec.ofBool s.csActive) ||| placed 7 (BitVec.ofBool s.hostViolation) |||
  placed 8 s.err.code ||| placed 12 s.errCause.code ||| placed 16 s.errSite.code |||
  placed 20 s.seqState.code ||| placed 24 s.errState.code

/-! ### The errors' codes -/

/-- R602, WRITE_REJECTED: the status bits of the token. -/
def rejectCause (token : Byte) : ErrCause :=
  if token &&& 0x1F = 0x0B then .crcError
  else if token &&& 0x1F = 0x0D then .writeError
  else .otherStatus

/-- The ERR code of an error raised outside INIT (R601). UnexpectedResponse is raised in INIT only (R608); it never
appears as ERR of its own. -/
def Error.code : Error → ErrCode
  | .busError => .busError
  | .deviceNotResponding _ => .deviceNotResponding
  | .writeRejected _ => .writeRejected
  | .unexpectedResponse => .initializationFailed

/-- The ERR_CAUSE of an error raised outside INIT (R602). -/
def Error.cause : Error → ErrCause
  | .busError => .none
  | .deviceNotResponding _ => .none
  | .writeRejected token => rejectCause token
  | .unexpectedResponse => .innerUnexpectedResponse

/-- The ERR_CAUSE of an error raised inside INIT: the inner code (R602). WriteRejected is raised in WRITE_BLOCK only
(R607). -/
def Error.innerCause : Error → ErrCause
  | .busError => .innerBusError
  | .deviceNotResponding _ => .innerDeviceNotResponding
  | .writeRejected token => rejectCause token
  | .unexpectedResponse => .innerUnexpectedResponse

/-- The ERR_SITE of an error: its site if it is DeviceNotResponding, else 0 (R603, R612). -/
def Error.site : Error → ErrSite
  | .busError => .none
  | .deviceNotResponding site => site
  | .writeRejected _ => .none
  | .unexpectedResponse => .none

/-! ### Tests on received bytes -/

/-- The dummy byte, also sent whenever the block only reads (R317). -/
def dummyByte : Byte := 0xFF

/-- The data-start token, in both directions (R311). -/
def dataStartToken : Byte := 0xFE

/-- R312, R442: an R1 byte has bit 7 = 0. -/
def isR1 (b : Byte) : Bool := !b.getLsbD 7

/-- R443: only 0xFE is the data-start token; every other byte, a data-error token included, is skipped (R318). -/
def isStartToken (b : Byte) : Bool := b == dataStartToken

/-- R315, R444 -/
def isDataResponse (b : Byte) : Bool := b &&& 0x11 == 0x01

/-- R315, R512: the write is accepted. -/
def isAccepted (b : Byte) : Bool := b &&& 0x1F == 0x05

/-- R316, R445: the byte that ends the busy period. -/
def isNotBusy (b : Byte) : Bool := b != 0x00

/-- `OpCondBusy(r)` under either polarity (R478). -/
def opCondBusy (p : Polarity) (r : Byte) : Bool :=
  match p with
  | .protocol => r != 0x00
  | .reference => r == 0x00

/-- The STRICT_INIT check after RESET (R480). -/
def resetResponseOk (s : State) : Bool := s.r1 == 0x01

/-- The STRICT_INIT check after VOLTAGE_CHECK (R480). -/
def voltageResponseOk (s : State) : Bool :=
  s.r1 == 0x01 && s.r7.extractLsb' 8 4 == 0x1#4 && s.r7.extractLsb' 0 8 == 0xAA#8

/-- The STRICT_INIT check after READ_OCR (R480). -/
def ocrResponseOk (s : State) : Bool := s.r1 == 0x00 && s.ocr.getLsbD 31

end Sys2Proof.Machine
end

