-- ==== Sys2Proof/Machine/Operands.lean ====
section
/-! DEFINITION. What the requests and frames operate on: the latched address, the frame arguments, the buffers a data
phase fills, and the capacity functions (spec/41_command_framing.md, spec/45_register_query.md R542, R543). -/

namespace Sys2Proof.Machine

/-- `Frame(idx, arg)` for a command of the running request: the argument of the two block commands is `a_lat`
(R407, R408). -/
def frameOf (c : Cmd) (s : State) : FrameWord :=
  assembleFrame s.cfg.frameCrc c.index (c.argument s.aLat)

/-- Where the data phase of a command puts its bytes: BUF for READ_SINGLE_BLOCK, CSD for READ_CSD (R502, R532). -/
def dataBase : Cmd → Nat
  | .cmd17 => bufBase
  | .cmd0 | .cmd8 | .cmd55 | .acmd41 | .cmd24 | .cmd58 | .cmd9 => csdBase

/-- How many bytes the data phase of a command reads (R502, R532). -/
def dataSize : Cmd → Nat
  | .cmd17 => bufSize
  | .cmd0 | .cmd8 | .cmd55 | .acmd41 | .cmd24 | .cmd58 | .cmd9 => csdSize

/-- OPCOND_ATTEMPTS (R108, R133): the register's 32 bits of the attempt count (log 4). -/
def State.opcondAttempts (s : State) : Word := BitVec.ofNat 32 s.attempts

/-- CSD[i] as the controller reads it. -/
def State.csdByte (s : State) (i : Nat) : Byte := s.readByte (csdBase + i)

/-- BUF[i] as the controller reads it. -/
def State.bufByte (s : State) (i : Nat) : Byte := s.readByte (bufBase + i)

/-- `CSizeOf(CSD)` (R542): CSD[7..9] as 24 bits, masked to 22. -/
def cSizeOf (b7 b8 b9 : Byte) : BitVec 22 :=
  let raw : Word := (b7.setWidth 32 <<< 16) ||| (b8.setWidth 32 <<< 8) ||| b9.setWidth 32
  (raw &&& 0x3FFFFF).setWidth 22

/-- `CapKiB(c)` (R543). -/
def capKibOf (c : BitVec 22) : Word := (c.setWidth 32 + 1) * 512

/-- One step of `Read4` (R446): `v <- (v << 8) | zext_32(b)`. -/
def shiftIn (v : Word) (b : Byte) : Word := (v <<< 8) ||| b.setWidth 32

end Sys2Proof.Machine
end

