-- ==== Sys2Proof/Machine/Ops.lean ====
section
/-! DEFINITION. The operations every instruction and every sequencer step is built of: the bus primitives of R12,
raising an error and the error exit (spec/60_exceptions.md R612, R613), acceptance (R611), refusal (R620), the host
violation (R622), and the platform's reset (spec/70_reset_and_hazards.md R701). -/

namespace Sys2Proof.Machine

/-! ### Bus events (R12) -/

/-- Record a bus event: it ends the trace, and the draws of the next step are fresh. -/
def record (e : BusEvent) (s : State) : State :=
  { s with trace := s.trace ++ [e], draws := s.draws + 1 }

/-- `CsSet(l)`; it cannot fail. -/
def csSet (l : Bool) (s : State) : State := record (.cs l) { s with csN := l }

/-- `ClkSet(r)`; it cannot fail. -/
def clkSet (r : ClockRate) (s : State) : State := record (.clk r) { s with clkSel := r }

/-- What the card side answers to the next exchange (R8): the next listed answer, else a free one. -/
def cardReply (s : State) : Option Byte :=
  match s.card with
  | [] => Config.cardAnswer s.draws
  | a :: _ => a

/-- The exchange of one byte as an event: X(o, i), or X(o, ⊥) when the transport fails. -/
def exchange (o : Byte) (s : State) : State :=
  record (.xfer o (cardReply s)) { s with card := s.card.tail }

/-! ### The error exit (R612): what a trap entry is to a processor -/

/-- R613: after an error exit the buffer the request was filling holds no value. -/
def forgetFilled (s : State) : State :=
  if s.opLat = opReadBlock then { s with mem := s.mem.forget bufBase bufSize }
  else if s.opLat = opReadCsd ∨ s.opLat = opGetCapacity then { s with mem := s.mem.forget csdBase csdSize }
  else s

/-- The writes of the error exit after `CsSet(1)` (R612): the return to the idle block. -/
def leaveError (s : State) : State :=
  { forgetFilled s with
    seqState := if s.ready then .ready else .uninit, busy := false, phase := .idle }

/-- The ERR writes of the error exit, which belong to the step that raises the error (R612). -/
def recordError (e : Error) (s : State) : State :=
  { s with
    err := if s.opLat = opInit then .initializationFailed else e.code
    errCause := if s.opLat = opInit then e.innerCause else e.cause
    errSite := e.site
    errState := s.seqState }

/-- `raise E(info)` (R12): the rest of the request does not run. With the card selected the exit's `CsSet(1)` is the
next step; else the exit is complete at once. -/
def raise (e : Error) (s : State) : State :=
  if s.csN then leaveError (recordError e s) else { recordError e s with phase := .errorExit }

/-- `SpiXfer(o)`: on an answer, `use` gets it in the step of the exchange; on a failure BusError is raised (R604). -/
def spiXfer (o : Byte) (use : Byte → State → State) (s : State) : State :=
  match cardReply s with
  | some b => use b (exchange o s)
  | none => raise .busError (exchange o s)

/-- A byte whose answer is discarded (R438). -/
def sendByte (o : Byte) (next : State → State) (s : State) : State :=
  spiXfer o (fun _ t => next t) s

/-! ### Requests: acceptance, refusal, violation -/

/-- The accepting step's own writes (R611). -/
def accept (op : Byte) (s : State) : State :=
  { s with
    opLat := op, aLat := s.addr, busy := true
    err := .none, errCause := .none, errSite := .none, errState := .uninit
    draws := s.draws + 1 }

/-- A refused request (R620): one step, no bus event, only the ERR fields written. -/
def refuse (cause : ErrCause) (s : State) : State :=
  { s with
    err := .requestRefused, errCause := cause, errSite := .none, errState := s.seqState
    draws := s.draws + 1 }

/-- A host violation (R213, R622): nothing of the block changes but the sticky HOST_VIOLATION, and the model's refusal
mark is set. -/
def violation (s : State) : State :=
  { s with hostViolation := true, refusalMark := true, draws := s.draws + 1 }

/-- A well-formed REQ write of a request's opcode: a violation while BUSY = 1 (R622), else accepted when READY is as
the request needs, else refused (R611, R620). `start` is the request's own lines up to its first bus event. -/
def present (op : Byte) (needsReady : Bool) (start : State → State) (s : State) : State :=
  if s.busy then violation s
  else if s.ready = needsReady then start (accept op s)
  else refuse (if needsReady then .notInitialized else .alreadyInitialized) s

/-- A well-formed REQ write of a reserved opcode (R323, R620). -/
def presentReserved (s : State) : State :=
  if s.busy then violation s else refuse .reservedOp s

/-! ### Transactions and the ends of requests -/

/-- A transaction starts with `CsSet(0)` as its next event (R432, R433). -/
def startTxn (c : Cmd) (s : State) : State := { s with phase := .select c }

/-- The last line of a successful request: `STATE <- READY; BUSY <- 0`. -/
def complete (s : State) : State := { s with seqState := .ready, busy := false, phase := .idle }

/-- The end of a successful INIT (R479). -/
def completeInit (s : State) : State := complete { s with ready := true }

/-! ### The platform's reset (R701) -/

/-- The external reset: every piece of the block's state at its value of R135, an RST marker and no CS or CLK event in
the trace; the card side (R702) and the host keep theirs, and the model's refusal mark stays (R622). -/
def platformReset (s : State) : State :=
  { State.resetAt s.cfg s.draws with
    refusalMark := s.refusalMark
    trace := s.trace ++ [.rst]
    card := s.card
    program := s.program
    hpc := s.hpc
    turns := s.turns
    replies := s.replies }

end Sys2Proof.Machine
end

