-- ==== Sys2Proof/Machine/Sequencer.lean ====
section
/-! DEFINITION. The sequencer: one bus event a step (spec/00_scope.md R9), the bus transaction discipline
(spec/42_bus_transactions.md), and what each transaction's end leads to (spec/43_initialization.md R471,
spec/44_block_transfer.md R501, R511, spec/45_register_query.md R531, R541). -/

namespace Sys2Proof.Machine

/-- The end of iteration `k` of `for k in 1..n`: the next iteration's phase, or what follows the loop. -/
def nextIteration (k n : Nat) (again : Nat → Phase) (done : State → State) (s : State) : State :=
  if k < n then { s with phase := again (k + 1) } else done s

/-- The start of `for k in 1..n`: not entered when n = 0 (R12). -/
def enterLoop (n : Nat) (first : Phase) (done : State → State) (s : State) : State :=
  if n = 0 then done s else { s with phase := first }

/-- Byte `k` of the bounded combinator `Poll` (R441). BusError pre-empts the match test (R615). -/
def poll (hit : Byte → Bool) (limit : Nat) (site : ErrSite) (k : Nat) (again : Nat → Phase)
    (found : Byte → State → State) (s : State) : State :=
  spiXfer dummyByte
    (fun b t =>
      if hit b then found b t
      else if k < limit then { t with phase := again (k + 1) }
      else raise (.deviceNotResponding site) t)
    s

/-- The frame of the transaction is assembled and stands ready to be sent (R432). -/
def readyFrame (c : Cmd) (s : State) : State := { s with phase := .issue (frameOf c s) }

/-- The tail of the transaction of a command: what follows its frame (R305, "response read"). -/
def startTail (c : Cmd) (s : State) : State :=
  match c with
  | .cmd0 | .cmd8 | .cmd55 | .acmd41 | .cmd58 => { s with phase := .pollR1 c 1 }
  | .cmd9 | .cmd17 => { s with phase := .pollToken c 1 }
  | .cmd24 => { s with phase := .sendToken }

/-- `End()` is next, with the tail's result `r` (R432, R434). -/
def startEnd (c : Cmd) (r : Option Byte) (s : State) : State := { s with phase := .deselect c r }

/-- What PollR1's byte does: the five-byte responses store it at once and read four bytes more; the others return it
(R471). -/
def gotR1 (c : Cmd) (b : Byte) (s : State) : State :=
  match c with
  | .cmd8 | .cmd58 => { s with r1 := b, phase := .readFour c 1 0 }
  | .cmd0 | .cmd55 | .acmd41 | .cmd17 | .cmd24 | .cmd9 => startEnd c (some b) s

/-- Where `Read4`'s result goes: R7 for SEND_VOLTAGE/INTERFACE_CONDITION, OCR for READ_OCR (R105). -/
def gotFour (c : Cmd) (v : Word) (s : State) : State :=
  match c with
  | .cmd8 => startEnd c none { s with r7 := v }
  | .cmd58 => startEnd c none { s with ocr := v }
  | .cmd0 | .cmd55 | .acmd41 | .cmd17 | .cmd24 | .cmd9 => startEnd c none s

/-- `R1 <- Txn(...)` (R471): a transaction that returned a byte. -/
def storeR1 (r : Option Byte) (s : State) : State :=
  match r with
  | some b => { s with r1 := b }
  | none => s

/-- The data-response token is judged (R512): only an accepted write goes on to the busy wait. -/
def gotDataResponse (d : Byte) (s : State) : State :=
  let t : State := { s with dresp := d }
  if isAccepted d then
    if t.cfg.writeBusyWait then { t with phase := .pollBusy 1 } else startEnd .cmd24 none t
  else raise (.writeRejected d) t

/-- After the RESET transaction (R471, R472, R480). -/
def afterReset (s : State) : State :=
  if s.cfg.strictInit && !resetResponseOk s then raise .unexpectedResponse s
  else startTxn .cmd8 { s with seqState := .voltageCheck }

/-- After the SEND_VOLTAGE/INTERFACE_CONDITION transaction (R471, R473, R480). -/
def afterVoltageCheck (s : State) : State :=
  if s.cfg.strictInit && !voltageResponseOk s then raise .unexpectedResponse s
  else startTxn .cmd55 { s with seqState := .appCmdPrefixSent }

/-- `OPCOND_ATTEMPTS <- OPCOND_ATTEMPTS + 1` (R471): INIT's step OPERATING_CONDITION_POLL, which sends SEND_OP_COND's
frame, counts the attempt before its transaction (R475, R406; log 12). -/
def countAttempt (s : State) : State := { s with attempts := s.attempts + 1 }

/-- After an APP_CMD_PREFIX transaction (R474, R475): STATE and the count, then SEND_OP_COND's transaction. Both lines run
in the step of the bus event before them (R9), the last one of the prefix's transaction. -/
def afterPrefix (s : State) : State :=
  startTxn .acmd41 (countAttempt { s with seqState := .operatingConditionPoll })

/-- After a SEND_OP_COND transaction (R471, R477, R478): the n-th busy response ends INIT when n is the limit. -/
def afterOpCond (s : State) : State :=
  if opCondBusy s.cfg.opcondPolarity s.r1 then
    if s.attempts = s.cfg.opcondRetryLimit then raise (.deviceNotResponding .opcondRetry) s
    else startTxn .cmd55 { s with seqState := .appCmdPrefixSent }
  else startTxn .cmd58 { s with seqState := .readOcr }

/-- After the READ_OCR transaction (R471, R479, R480). -/
def afterReadOcr (s : State) : State :=
  if s.cfg.strictInit && !ocrResponseOk s then raise .unexpectedResponse s
  else if s.cfg.raiseClock then { s with phase := .clkFast }
  else completeInit s

/-- After the READ_CSD transaction: the last lines of READ_CSD (R531), and of GET_CAPACITY (R541). -/
def afterCsd (s : State) : State :=
  let t : State := { s with csdValid := true }
  if t.opLat = opGetCapacity then
    let c := cSizeOf (t.csdByte 7) (t.csdByte 8) (t.csdByte 9)
    complete { t with csize := c, capKib := capKibOf c, capValid := true }
  else complete t

/-- A transaction has ended: the lines of its request up to the next bus event run in this same step (R9). -/
def endTxn (c : Cmd) (r : Option Byte) (s : State) : State :=
  match c with
  | .cmd0 => afterReset (storeR1 r s)
  | .cmd8 => afterVoltageCheck s
  | .cmd55 => afterPrefix (storeR1 r s)
  | .acmd41 => afterOpCond (storeR1 r s)
  | .cmd58 => afterReadOcr s
  | .cmd17 => complete { s with bufValid := true }
  | .cmd24 => complete s
  | .cmd9 => afterCsd s

/-- One byte of a data phase is stored in the step of its exchange (R447). -/
def gotData (c : Cmd) (i : Nat) (b : Byte) (s : State) : State :=
  let t := s.writeByte (dataBase c + i) b
  if i + 1 < dataSize c then { t with phase := .readData c (i + 1) }
  else enterLoop t.cfg.nReadTrailer (.trailer c 1) (startEnd c none) t

/-- The first byte of a frame is sent; bytes 1 to 5 follow, one a step (R402). -/
def sendFrame (c : Cmd) (f : FrameWord) (s : State) : State :=
  sendByte (frameByte f 0) (fun t => { t with phase := .frame c f 1 }) s

/-- One step of the sequencer in a phase that has no frame to issue. -/
def seqStep (s : State) : State :=
  match s.phase with
  | .idle => s
  | .clkSlow => { clkSet .slow s with phase := .preambleCs }
  | .preambleCs =>
      enterLoop s.cfg.nPowerupDummy (.powerDummy 1) (startTxn .cmd0) (csSet true s)
  | .powerDummy k =>
      sendByte dummyByte (nextIteration k s.cfg.nPowerupDummy .powerDummy (startTxn .cmd0)) s
  | .select c => enterLoop s.cfg.nPreDummy (.preDummy c 1) (readyFrame c) (csSet false s)
  | .preDummy c k =>
      sendByte dummyByte (nextIteration k s.cfg.nPreDummy (.preDummy c) (readyFrame c)) s
  | .issue _ => s
  | .frame c f j =>
      sendByte (frameByte f j)
        (fun t => if j < 5 then { t with phase := .frame c f (j + 1) } else startTail c t) s
  | .pollR1 c k => poll isR1 s.cfg.r1PollLimit .r1Poll k (.pollR1 c) (gotR1 c) s
  | .readFour c j v =>
      spiXfer dummyByte
        (fun b t =>
          if j < 4 then { t with phase := .readFour c (j + 1) (shiftIn v b) }
          else gotFour c (shiftIn v b) t)
        s
  | .pollToken c k =>
      poll isStartToken s.cfg.tokenPollLimit .tokenPoll k (.pollToken c)
        (fun _ t => { t with phase := .readData c 0 }) s
  | .readData c i => spiXfer dummyByte (gotData c i) s
  | .trailer c j =>
      sendByte dummyByte (nextIteration j s.cfg.nReadTrailer (.trailer c) (startEnd c none)) s
  | .sendToken => sendByte dataStartToken (fun t => { t with phase := .sendData 0 }) s
  | .sendData i =>
      sendByte (s.bufByte i)
        (fun t =>
          if i + 1 < bufSize then { t with phase := .sendData (i + 1) }
          else { t with phase := .sendCrc0 })
        s
  | .sendCrc0 => sendByte s.cfg.writeCrc0 (fun t => { t with phase := .sendCrc1 }) s
  | .sendCrc1 => sendByte s.cfg.writeCrc1 (fun t => { t with phase := .pollDresp 1 }) s
  | .pollDresp k =>
      poll isDataResponse s.cfg.drespPollLimit .drespPoll k .pollDresp gotDataResponse s
  | .pollBusy k =>
      poll isNotBusy s.cfg.busyPollLimit .busyPoll k .pollBusy (fun _ => startEnd .cmd24 none) s
  | .deselect c r =>
      enterLoop s.cfg.nPostDummy (.postDummy c r 1) (endTxn c r) (csSet true s)
  | .postDummy c r k =>
      sendByte dummyByte (nextIteration k s.cfg.nPostDummy (.postDummy c r) (endTxn c r)) s
  | .clkFast => completeInit (clkSet .fast s)
  | .errorExit => leaveError (csSet true s)

/-- What a move of the controller comes to: the next state, or a frame that stands ready to be sent. -/
inductive ControllerMove where
  | done (s : State)
  | frame (f : FrameWord) (s : State)

/-- The controller moves: it issues the frame it has assembled, or takes one step of its sequencer (R9). -/
def controllerMove (s : State) : ControllerMove :=
  match s.phase with
  | .issue f => .frame f s
  | _ => .done (seqStep s)

end Sys2Proof.Machine
end

