-- ==== Sys2Proof/Machine/Frames.lean ====
section
/-! DEFINITION. The meanings of the eight command frames (spec/41_command_framing.md R403 to R410): the step in which
the controller starts to send the frame. A step has one bus event (spec/00_scope.md R9), so the meaning sends byte 0
and leaves bytes 1 to 5, and then the command's response read, to the sequencer's next steps. -/

namespace Sys2Proof.Machine

/-- R403: `Frame(0, 0)`. -/
def execCmd0 (s : State) : Host.Outcome State Fault Refusal :=
  .next (sendFrame .cmd0 (assembleFrame s.cfg.frameCrc 0 0) s)

/-- R404: `Frame(8, 0x000001AA)`. -/
def execCmd8 (s : State) : Host.Outcome State Fault Refusal :=
  .next (sendFrame .cmd8 (assembleFrame s.cfg.frameCrc 8 0x000001AA) s)

/-- R405: `Frame(55, 0)`. -/
def execCmd55 (s : State) : Host.Outcome State Fault Refusal :=
  .next (sendFrame .cmd55 (assembleFrame s.cfg.frameCrc 55 0) s)

/-- R406: `Frame(41, 0x40000000)`. OPCOND_ATTEMPTS has been incremented by INIT's step OPERATING_CONDITION_POLL, which
sends it (R475; afterPrefix, log 12). -/
def execAcmd41 (s : State) : Host.Outcome State Fault Refusal :=
  .next (sendFrame .acmd41 (assembleFrame s.cfg.frameCrc 41 0x40000000) s)

/-- R407: `Frame(17, a)`, any `a`. -/
def execCmd17 (a : Word) (s : State) : Host.Outcome State Fault Refusal :=
  .next (sendFrame .cmd17 (assembleFrame s.cfg.frameCrc 17 a) s)

/-- R408: `Frame(24, a)`, any `a`. -/
def execCmd24 (a : Word) (s : State) : Host.Outcome State Fault Refusal :=
  .next (sendFrame .cmd24 (assembleFrame s.cfg.frameCrc 24 a) s)

/-- R409: `Frame(58, 0)`. -/
def execCmd58 (s : State) : Host.Outcome State Fault Refusal :=
  .next (sendFrame .cmd58 (assembleFrame s.cfg.frameCrc 58 0) s)

/-- R410: `Frame(9, 0)`. -/
def execCmd9 (s : State) : Host.Outcome State Fault Refusal :=
  .next (sendFrame .cmd9 (assembleFrame s.cfg.frameCrc 9 0) s)

end Sys2Proof.Machine
end

