-- ==== Sys2Proof/Machine/Requests.lean ====
section
/-! DEFINITION. The meanings of the five host requests: the step in which the host's REQ write presents the request.
The steps after an acceptance are the sequencer's (spec/00_scope.md R9). -/

namespace Sys2Proof.Machine

/-- INIT's lines up to its first bus event (R471). -/
def startInit (s : State) : State :=
  { s with attempts := 0, seqState := .reset, phase := .clkSlow }

/-- READ_BLOCK's lines up to its first bus event (R501). -/
def startReadBlock (s : State) : State :=
  startTxn .cmd17 { s with bufValid := false, seqState := .xferReadBlock }

/-- WRITE_BLOCK's lines up to its first bus event (R511). -/
def startWriteBlock (s : State) : State := startTxn .cmd24 { s with seqState := .xferWriteBlock }

/-- READ_CSD's lines up to its first bus event (R531). -/
def startReadCsd (s : State) : State :=
  startTxn .cmd9 { s with csdValid := false, seqState := .xferReadCsd }

/-- GET_CAPACITY's lines up to its first bus event (R541). -/
def startGetCapacity (s : State) : State :=
  startTxn .cmd9 { s with csdValid := false, capValid := false, seqState := .xferReadCsd }

/-- R471: accepted when READY = 0. -/
def execInit (s : State) : Host.Outcome State Fault Refusal :=
  .next (present opInit false startInit s)

/-- R501: accepted when READY = 1. -/
def execReadBlock (s : State) : Host.Outcome State Fault Refusal :=
  .next (present opReadBlock true startReadBlock s)

/-- R511: accepted when READY = 1. -/
def execWriteBlock (s : State) : Host.Outcome State Fault Refusal :=
  .next (present opWriteBlock true startWriteBlock s)

/-- R531: accepted when READY = 1. -/
def execReadCsd (s : State) : Host.Outcome State Fault Refusal :=
  .next (present opReadCsd true startReadCsd s)

/-- R541: accepted when READY = 1. -/
def execGetCapacity (s : State) : Host.Outcome State Fault Refusal :=
  .next (present opGetCapacity true startGetCapacity s)

end Sys2Proof.Machine
end

