-- ==== Sys2Proof/Machine/Dispatch.lean ====
section
/-! DEFINITION. One arm per row of spec/opcode_table.json. -/

namespace Sys2Proof.Machine

def exec (i : Instr) (s : State) : Host.Outcome State Fault Refusal :=
  match i with
  | .init => Sys2Proof.Machine.execInit s
  | .readBlock => Sys2Proof.Machine.execReadBlock s
  | .writeBlock => Sys2Proof.Machine.execWriteBlock s
  | .readCsd => Sys2Proof.Machine.execReadCsd s
  | .getCapacity => Sys2Proof.Machine.execGetCapacity s
  | .cmd0 => Sys2Proof.Machine.execCmd0 s
  | .cmd8 => Sys2Proof.Machine.execCmd8 s
  | .cmd55 => Sys2Proof.Machine.execCmd55 s
  | .acmd41 => Sys2Proof.Machine.execAcmd41 s
  | .cmd17 a => Sys2Proof.Machine.execCmd17 a s
  | .cmd24 a => Sys2Proof.Machine.execCmd24 a s
  | .cmd58 => Sys2Proof.Machine.execCmd58 s
  | .cmd9 => Sys2Proof.Machine.execCmd9 s

end Sys2Proof.Machine
end

