-- ==== Sys2Proof/Machine/HostPort.lean ====
section
/-! DEFINITION. The host port (spec/10_state.md R110 to R112, spec/20_memory.md R210 to R215): what stands at each
offset, which accesses are well-formed, and what a read and a write do. A REQ write's request is run by step. -/

namespace Sys2Proof.Machine

/-- The registers of R110's table. -/
inductive PortReg where
  | req | addr | status | r1 | r7 | ocr | dresp | csize | capKib | opcondAttempts
deriving DecidableEq, Repr

/-- What an offset is (R110). -/
inductive PortPlace where
  /-- the offset of a 32-bit register -/
  | reg (r : PortReg)
  /-- a byte inside a 32-bit register, after its first -/
  | insideReg
  | csd
  | buf
  | reserved
deriving DecidableEq, Repr

/-- The register of a word offset below 0x028 (R110). -/
def regAt (n : Nat) : PortReg :=
  match n with
  | 0 => .req
  | 1 => .addr
  | 2 => .status
  | 3 => .r1
  | 4 => .r7
  | 5 => .ocr
  | 6 => .dresp
  | 7 => .csize
  | 8 => .capKib
  | _ => .opcondAttempts

/-- R110 -/
def placeOf (off : Offset) : PortPlace :=
  let n := off.toNat
  if n < 0x28 then (if n % 4 = 0 then .reg (regAt (n / 4)) else .insideReg)
  else if n < csdBase then .reserved
  else if n < csdBase + csdSize then .csd
  else if n < bufBase then .reserved
  else .buf

/-- R210: 32-bit registers by 32-bit accesses at their offset, the buffers by bytes, reserved offsets by any aligned
access. -/
def wellFormedAccess (w : Width) (off : Offset) : Bool :=
  match placeOf off, w with
  | .reg _, .word => true
  | .reg _, .byte => false
  | .insideReg, _ => false
  | .csd, .byte => true
  | .csd, .word => false
  | .buf, .byte => true
  | .buf, .word => false
  | .reserved, .byte => true
  | .reserved, .word => decide (off.toNat % 4 = 0)

/-- The value of a register as R110 and R112 lay it out. -/
def regValue (r : PortReg) (s : State) : Word :=
  match r with
  | .req => 0
  | .addr => s.addr
  | .status => statusWord s
  | .r1 => s.r1.setWidth 32
  | .r7 => s.r7
  | .ocr => s.ocr
  | .dresp => s.dresp.setWidth 32
  | .csize => s.csize.setWidth 32
  | .capKib => s.capKib
  | .opcondAttempts => s.opcondAttempts

/-- A well-formed read with BUSY = 0 (R211, R214). -/
def idleRead (off : Offset) (s : State) : Word :=
  match placeOf off with
  | .reg r => regValue r s
  | .insideReg => 0
  | .csd => (s.readByte off.toNat).setWidth 32
  | .buf => (s.readByte off.toNat).setWidth 32
  | .reserved => 0

/-- A value under no law, of the width of the access (R213, R215). -/
def drawValue (w : Width) (off : Offset) (s : State) : Word :=
  match w with
  | .word => Config.readWord s.draws off.toNat
  | .byte => (Config.readWord s.draws off.toNat) &&& 0xFF

/-- What a host read returns (R211, R213, R215). -/
def readValue (w : Width) (off : Offset) (s : State) : Word :=
  if wellFormedAccess w off then
    if placeOf off = .reg .status then statusWord s
    else if s.busy then drawValue w off s
    else idleRead off s
  else drawValue w off s

/-- What a host read changes: nothing, but that an ill-formed one sets HOST_VIOLATION (R213); a draw that R211 does not
make repeatable takes its index. -/
def afterRead (w : Width) (off : Offset) (s : State) : State :=
  if wellFormedAccess w off then
    if placeOf off = .reg .status then s
    else if s.busy then { s with draws := s.draws + 1 }
    else s
  else violation s

/-- A host read, its value told to the host (the model's own record). -/
def portRead (w : Width) (off : Offset) (s : State) : State :=
  { afterRead w off s with replies := s.replies ++ [{ off := off, value := readValue w off s }] }

/-- A well-formed write with BUSY = 0, but for the request a REQ write presents (R212, R214). -/
def idleWrite (off : Offset) (v : Word) (s : State) : State :=
  match placeOf off with
  | .reg .addr => { s with addr := v }
  | .buf => { s.writeByte off.toNat (v.setWidth 8) with bufValid := false }
  | .reg .req => s
  | .reg .status => s
  | .reg .r1 => s
  | .reg .r7 => s
  | .reg .ocr => s
  | .reg .dresp => s
  | .reg .csize => s
  | .reg .capKib => s
  | .reg .opcondAttempts => s
  | .insideReg => s
  | .csd => s
  | .reserved => s

/-- A host write that presents no request: a violation when ill-formed or while BUSY = 1 (R213, R215, R622). -/
def portWrite (w : Width) (off : Offset) (v : Word) (s : State) : State :=
  if wellFormedAccess w off && !s.busy then idleWrite off v s else violation s

end Sys2Proof.Machine
end

