-- ==== Sys2Proof/Machine/HostProgram.lean ====
section
/-! DEFINITION. The host as R325 describes its programs: the assembly of a source program into accesses, and what the
host does when it moves (spec/30_encoding.md R325, spec/00_scope.md R8). -/

namespace Sys2Proof.Machine

/-! ### Assembly -/

/-- The accesses a source line stands for, with `target` resolving a label (R325). -/
def expandLine (target : Nat → Nat) : SourceLine → List HostLine
  | .rd8 off => [.rd .byte off]
  | .rd32 off => [.rd .word off]
  | .wr8 off v => [.wr .byte off (v.setWidth 32)]
  | .wr32 off v => [.wr .word off v]
  | .waitIdle => [.waitIdle]
  | .init => [.wr .word 0x000 0x01, .waitIdle]
  | .readBlock a => [.wr .word 0x004 a, .wr .word 0x000 0x02, .waitIdle]
  | .writeBlock a => [.wr .word 0x004 a, .wr .word 0x000 0x03, .waitIdle]
  | .readCsd => [.wr .word 0x000 0x04, .waitIdle]
  | .getCapacity => [.wr .word 0x000 0x05, .waitIdle]
  | .fill v => (List.range bufSize).map (fun j => .wr .byte (BitVec.ofNat 10 (bufBase + j)) (v.setWidth 32))
  | .berr l => [.berr (target l)]
  | .branch l => [.branch (target l)]
  | .label _ => []
  | .halt => [.halt]

/-- Where a label stands: the position of the line after it (R325). The model's choice, where R325 is silent (log 15):
of several lines with one label the first counts, and a label that stands nowhere is the end of the program. -/
def labelPosition (l : Nat) (at0 : Nat) : List SourceLine → Nat
  | [] => at0
  | .label n :: rest => if n = l then at0 else labelPosition l at0 rest
  | x :: rest => labelPosition l (at0 + (expandLine id x).length) rest

/-- A source program as the lines the host runs. -/
def assemble (p : List SourceLine) : List HostLine :=
  p.flatMap (expandLine (fun l => labelPosition l 0 p))

/-! ### The host's move -/

/-- What a move of the host comes to: the next state, or a well-formed REQ-offset 32-bit write of `v`, which presents
the request that `v` decodes to (R111). -/
inductive HostMove where
  | done (s : State)
  | request (v : Word) (s : State)

/-- The host reads STATUS (R325), and goes on at `target` as the value says. -/
def readStatusThen (target : Word → Nat) (s : State) : State :=
  { portRead .word 0x008 s with hpc := target (statusWord s) }

/-- The host moves: it issues the access of its current line. A host at the end of its program, or at HALT, does
nothing. -/
def hostMove (s : State) : HostMove :=
  match s.program[s.hpc]? with
  | none => .done s
  | some .halt => .done s
  | some (.rd w off) => .done (portRead w off { s with hpc := s.hpc + 1 })
  | some (.wr w off v) =>
      if w = .word ∧ off = 0x000 then .request v { s with hpc := s.hpc + 1 }
      else .done (portWrite w off v { s with hpc := s.hpc + 1 })
  | some .waitIdle =>
      .done (readStatusThen (fun v => if v.getLsbD 0 then s.hpc else s.hpc + 1) s)
  | some (.berr t) =>
      .done (readStatusThen (fun v => if v.extractLsb' 8 4 = 0#4 then s.hpc + 1 else t) s)
  | some (.branch t) => .done { s with hpc := t }

/-! ### Whose move it is -/

/-- Whose move it is (R8): as State.turns lists, and past its end the controller's while a request runs, else the
host's. -/
def whoMoves (s : State) : Turn :=
  match s.turns with
  | t :: _ => t
  | [] => if s.busy then .controller else .host

/-- The move is taken from the list. -/
def takeTurn (s : State) : State := { s with turns := s.turns.tail }

end Sys2Proof.Machine
end

