-- ==== Sys2Proof/Machine/Step.lean ====
section
/-! DEFINITION. One step of the machine: the agent whose turn it is moves (spec/00_scope.md R8, R9). -/

namespace Sys2Proof.Machine

/-- A request word: the decoded request runs; a reserved opcode is refused in its own way (R111, R323). -/
def runRequest (v : Word) (s : State) : Host.Outcome State Fault Refusal :=
  match decodeRequest v with
  | .ok i => exec i s
  | .error _ => .next (presentReserved s)

/-- An assembled frame: the decoded frame runs (R401, R411). -/
def runFrame (f : FrameWord) (s : State) : Host.Outcome State Fault Refusal :=
  match decodeFrame f with
  | .ok i => exec i s
  | .error _ => .fault .notAFrame

/-- The host's turn. -/
def hostTurn (s : State) : Host.Outcome State Fault Refusal :=
  match hostMove s with
  | .done t => .next t
  | .request v t => runRequest v t

/-- The controller's turn. -/
def controllerTurn (s : State) : Host.Outcome State Fault Refusal :=
  match controllerMove s with
  | .done t => .next t
  | .frame f t => runFrame f t

/-- What the hardware, its host and its platform do next, whatever has happened before: a host violation changes
nothing but HOST_VIOLATION, and the block goes on (R213, R215, R622). -/
def advance (s : State) : Host.Outcome State Fault Refusal :=
  match whoMoves s with
  | .host => hostTurn (takeTurn s)
  | .controller => controllerTurn (takeTurn s)
  | .platformReset => .next (platformReset (takeTurn s))

/-- One step of the model. A run has no meaning beyond a host violation: a state that carries the refusal mark is
refused (R622, D22). -/
def step (s : State) : Host.Outcome State Fault Refusal :=
  if s.refusalMark then .refused .hostViolation else advance s

/-- `s` with the instruction of a table row where the next step finds it: a request word (up to 32 bits) as the
`WR32 0x000` line the host is at, on the host's turn; a frame (48 bits) as the assembled frame the sequencer is about to
send, on the controller's turn. -/
def State.withFetchWord (s : State) (nbits w : Nat) : State :=
  if nbits ≤ 32 then
    { s with program := [.wr .word 0x000 (BitVec.ofNat 32 w)], hpc := 0, turns := .host :: s.turns }
  else
    { s with phase := .issue (BitVec.ofNat 48 w), turns := .controller :: s.turns }

end Sys2Proof.Machine
end

