-- ==== Sys2Proof/Safety.lean ====
section
/-! DEFINITION. The terms claims use: runs of the machine, the bus-event trace of a transaction, the invariants, and the
bound on the bus events a request has left (spec/70_reset_and_hazards.md R731). -/

namespace Sys2Proof.Machine

/-! ### Runs -/

/-- `n` steps, as long as each answers a next state. -/
def steps : Nat → State → Host.Outcome State Fault Refusal
  | 0, s => .next s
  | n + 1, s =>
    match step s with
    | .next t => steps n t
    | .fault r => .fault r
    | .refused r => .refused r

/-- A state that runs from reset lead to. -/
inductive Reachable : State → Prop where
  | reset (cfg : Params) (h : cfg.wf = true) : Reachable (State.resetAt cfg 0)
  /-- the outside loads a program, the card's answers and the order of moves -/
  | load {s : State} (h : Reachable s) (program : List HostLine) (hpc : Nat) (card : List (Option Byte))
      (turns : List Turn) :
      Reachable { s with program := program, hpc := hpc, card := card, turns := turns }
  | step {s t : State} (h : Reachable s) (e : step s = .next t) : Reachable t

/-! ### Traces -/

/-- The events of successful exchanges, byte sent beside byte received. -/
def exchanges (outs ins : List Byte) : List BusEvent :=
  List.zipWith (fun o i => .xfer o (some i)) outs ins

/-- The events of exchanges in which the block sends 0xFF only and receives `ins`. -/
def reads (ins : List Byte) : List BusEvent := ins.map (fun i => .xfer dummyByte (some i))

/-- The events of a transaction (R432 to R434): select, dummy bytes, frame, tail, deselect, dummy bytes. `pre`, `fr`
and `post` are the discarded bytes the card sends meanwhile. -/
def txnEvents (f : FrameWord) (pre fr : List Byte) (tail : List BusEvent) (post : List Byte) : List BusEvent :=
  [.cs false] ++ reads pre ++ exchanges (frameBytes f) fr ++ tail ++ [.cs true] ++ reads post

/-- The chip-select level after a trace that began deselected (R102, R701). -/
def levelAfter (tr : List BusEvent) : Bool :=
  tr.foldl
    (fun l e => match e with
      | .cs b => b
      | .rst => true
      | .clk _ => l
      | .xfer _ _ => l)
    true

/-- The clock rate after a trace that began slow (R103, R701). -/
def rateAfter (tr : List BusEvent) : ClockRate :=
  tr.foldl
    (fun r e => match e with
      | .cs _ => r
      | .rst => .slow
      | .clk q => q
      | .xfer _ _ => r)
    .slow

/-- R436: no `CS(0)` is recorded while the card is selected. The flag is the level so far. -/
def selectsAlternate : Bool → List BusEvent → Bool
  | _, [] => true
  | l, .cs b :: rest => (b || l) && selectsAlternate b rest
  | _, .rst :: rest => selectsAlternate true rest
  | l, .clk _ :: rest => selectsAlternate l rest
  | l, .xfer _ _ :: rest => selectsAlternate l rest

/-! ### The invariant of the sequencer -/

/-- The STATE code under which a command's transaction runs (R131, R472 to R476). -/
def cmdState : Cmd → SeqState
  | .cmd0 => .reset
  | .cmd8 => .voltageCheck
  | .cmd55 => .appCmdPrefixSent
  | .acmd41 => .operatingConditionPoll
  | .cmd58 => .readOcr
  | .cmd17 => .xferReadBlock
  | .cmd24 => .xferWriteBlock
  | .cmd9 => .xferReadCsd

/-- The commands INIT sends (R471). -/
def cmdOfInit : Cmd → Bool
  | .cmd0 | .cmd8 | .cmd55 | .acmd41 | .cmd58 => true
  | .cmd17 | .cmd24 | .cmd9 => false

/-- The requests that send a command (R403 to R410). -/
def cmdSentBy (c : Cmd) (op : Byte) : Prop :=
  match c with
  | .cmd0 | .cmd8 | .cmd55 | .acmd41 | .cmd58 => op = opInit
  | .cmd17 => op = opReadBlock
  | .cmd24 => op = opWriteBlock
  | .cmd9 => op = opReadCsd ∨ op = opGetCapacity

/-- A transaction of `c` runs: STATE, `op_lat` and READY are as its request needs (R131, R132, R113). -/
def inTxn (s : State) (c : Cmd) : Prop :=
  s.seqState = cmdState c ∧ cmdSentBy c s.opLat ∧ s.ready = !cmdOfInit c

/-- INIT runs outside any transaction, in the given STATE. -/
def inInit (s : State) (q : SeqState) : Prop :=
  s.seqState = q ∧ s.opLat = opInit ∧ s.ready = false

/-- The phase, its counters within their ranges (R133), and the state around it. -/
def positionOk (s : State) : Prop :=
  match s.phase with
  | .idle => s.seqState = if s.ready then .ready else .uninit
  | .clkSlow => inInit s .reset
  | .preambleCs => inInit s .reset
  | .powerDummy k => inInit s .reset ∧ 1 ≤ k ∧ k ≤ s.cfg.nPowerupDummy
  | .select c => inTxn s c
  | .preDummy c k => inTxn s c ∧ 1 ≤ k ∧ k ≤ s.cfg.nPreDummy
  | .issue f => ∃ c, inTxn s c ∧ f = frameOf c s
  | .frame c f j => inTxn s c ∧ f = frameOf c s ∧ 1 ≤ j ∧ j ≤ 5
  | .pollR1 c k => inTxn s c ∧ cmdOfInit c = true ∧ 1 ≤ k ∧ k ≤ s.cfg.r1PollLimit
  | .readFour c j _ => inTxn s c ∧ (c = .cmd8 ∨ c = .cmd58) ∧ 1 ≤ j ∧ j ≤ 4
  | .pollToken c k => inTxn s c ∧ (c = .cmd17 ∨ c = .cmd9) ∧ 1 ≤ k ∧ k ≤ s.cfg.tokenPollLimit
  | .readData c i => inTxn s c ∧ (c = .cmd17 ∨ c = .cmd9) ∧ i < dataSize c
  | .trailer c j => inTxn s c ∧ (c = .cmd17 ∨ c = .cmd9) ∧ 1 ≤ j ∧ j ≤ s.cfg.nReadTrailer
  | .sendToken => inTxn s .cmd24
  | .sendData i => inTxn s .cmd24 ∧ i < bufSize
  | .sendCrc0 => inTxn s .cmd24
  | .sendCrc1 => inTxn s .cmd24
  | .pollDresp k => inTxn s .cmd24 ∧ 1 ≤ k ∧ k ≤ s.cfg.drespPollLimit
  | .pollBusy k =>
      inTxn s .cmd24 ∧ s.cfg.writeBusyWait = true ∧ 1 ≤ k ∧ k ≤ s.cfg.busyPollLimit
  | .deselect c _ => inTxn s c
  | .postDummy c _ k => inTxn s c ∧ 1 ≤ k ∧ k ≤ s.cfg.nPostDummy
  | .clkFast => inInit s .readOcr ∧ s.cfg.raiseClock = true
  | .errorExit => (∃ c, inTxn s c) ∧ s.err ≠ .none

/-- The chip-select level a phase is met with (R436). -/
def phaseLevel : Phase → Bool
  | .idle | .clkSlow | .preambleCs | .powerDummy _ | .select _ | .postDummy _ _ _ | .clkFast => true
  | .preDummy _ _ | .issue _ | .frame _ _ _ | .pollR1 _ _ | .readFour _ _ _ | .pollToken _ _ | .readData _ _
  | .trailer _ _ | .sendToken | .sendData _ | .sendCrc0 | .sendCrc1 | .pollDresp _ | .pollBusy _
  | .deselect _ _ | .errorExit => false

/-- The attempt count in the course of an INIT (R108, R133, R475, R477). -/
def attemptsOk (s : State) : Prop :=
  match s.seqState with
  | .reset | .voltageCheck => s.attempts = 0
  | .appCmdPrefixSent => s.attempts < s.cfg.opcondRetryLimit
  | .operatingConditionPoll | .readOcr => 1 ≤ s.attempts ∧ s.attempts ≤ s.cfg.opcondRetryLimit
  | .uninit | .ready | .xferReadBlock | .xferWriteBlock | .xferReadCsd => True

/-- The values ERR_CAUSE, ERR_SITE and ERR_STATE have beside each ERR (R112, R602, R603). -/
def errorFieldsOk (s : State) : Prop :=
  match s.err with
  | .none => s.errCause = .none ∧ s.errSite = .none ∧ s.errState = .uninit
  | .busError => s.errCause = .none ∧ s.errSite = .none
  | .deviceNotResponding =>
      s.errCause = .none ∧ (s.errSite = .tokenPoll ∨ s.errSite = .drespPoll ∨ s.errSite = .busyPoll)
  | .initializationFailed =>
      (s.errCause = .innerBusError ∧ s.errSite = .none) ∨
      (s.errCause = .innerDeviceNotResponding ∧ (s.errSite = .r1Poll ∨ s.errSite = .opcondRetry)) ∨
      (s.errCause = .innerUnexpectedResponse ∧ s.errSite = .none)
  | .writeRejected =>
      (s.errCause = .crcError ∨ s.errCause = .writeError ∨ s.errCause = .otherStatus) ∧ s.errSite = .none
  | .requestRefused =>
      (s.errCause = .reservedOp ∨ s.errCause = .notInitialized ∨ s.errCause = .alreadyInitialized) ∧
      s.errSite = .none

/-- The invariant of the control state. -/
structure Inv (s : State) : Prop where
  /-- the configuration is one R6 admits -/
  cfg_ok : s.cfg.wf = true
  /-- the buffers' one representation -/
  mem_ok : s.mem.wf
  mem_windows : s.mem.inWindows
  /-- R130: BUSY = 0 exactly when the phase is idle -/
  busy_iff : s.busy = true ↔ s.phase ≠ .idle
  /-- R131, R133 -/
  position : positionOk s
  /-- R436 -/
  level : s.csN = phaseLevel s.phase
  /-- R479, R481: the clock is fast only after a successful INIT that raised it -/
  clock : s.clkSel = .fast ↔ (s.ready = true ∧ s.cfg.raiseClock = true)
  /-- R477 -/
  attempts : s.busy = true → attemptsOk s
  /-- R118: while a request runs without an error, ERR = 0 -/
  no_error_yet : s.busy = true → s.phase ≠ .errorExit → s.err = .none
  /-- R602, R603 -/
  error_fields : errorFieldsOk s
  /-- R121: HOST_VIOLATION is the image of the refusal mark -/
  mark : s.hostViolation = true → s.refusalMark = true

/-- The request that runs is filling BUF or CSD: the first `n` bytes of it are stored, none of its flags is set. -/
def filling (s : State) (c : Cmd) (n : Nat) : Prop :=
  match c with
  | .cmd17 => s.bufValid = false ∧ s.mem.holds bufBase n
  | .cmd9 => s.csdValid = false ∧ (s.opLat = opGetCapacity → s.capValid = false) ∧ s.mem.holds csdBase n
  | .cmd0 | .cmd8 | .cmd55 | .acmd41 | .cmd24 | .cmd58 => True

/-- How much of its buffer the running request has filled (R502, R532). -/
def fillOk (s : State) : Prop :=
  match s.phase with
  | .select c => filling s c 0
  | .preDummy c _ => filling s c 0
  | .issue _ => ∃ c, inTxn s c ∧ filling s c 0
  | .frame c _ _ => filling s c 0
  | .pollToken c _ => filling s c 0
  | .readData c i => filling s c i
  | .trailer c _ => filling s c (dataSize c)
  | .deselect c _ => filling s c (dataSize c)
  | .postDummy c _ _ => filling s c (dataSize c)
  | .errorExit => ∃ c, inTxn s c ∧ filling s c 0
  | .idle | .clkSlow | .preambleCs | .powerDummy _ | .pollR1 _ _ | .readFour _ _ _ | .sendToken
  | .sendData _ | .sendCrc0 | .sendCrc1 | .pollDresp _ | .pollBusy _ | .clkFast => True

/-- The invariant of the results (R723): what each valid flag promises. -/
structure ResultsOk (s : State) : Prop where
  /-- BUF_VALID = 1: every byte of BUF holds a value -/
  buf : s.bufValid = true → s.mem.holds bufBase bufSize
  /-- CSD_VALID = 1: every byte of CSD holds a value -/
  csd : s.csdValid = true → s.mem.holds csdBase csdSize
  /-- CAP_VALID = 1: CAP_KIB is the capacity of CSIZE (R543) -/
  cap : s.capValid = true → s.capKib = capKibOf s.csize
  /-- the request that runs has set none of the flags it will set -/
  fill : fillOk s

/-- The outputs are what the trace says (R102, R103, R436). -/
structure TraceOk (s : State) : Prop where
  level : s.csN = levelAfter s.trace
  rate : s.clkSel = rateAfter s.trace
  alternate : selectsAlternate true s.trace = true

/-! ### The shape of a step -/

/-- The phases whose bus event is an exchange. -/
def exchangePhase : Phase → Prop
  | .idle | .clkSlow | .preambleCs | .select _ | .deselect _ _ | .clkFast | .errorExit => False
  | .issue f => ∃ i, decodeFrame f = .ok i
  | .powerDummy _ | .preDummy _ _ | .frame _ _ _ | .pollR1 _ _ | .readFour _ _ _ | .pollToken _ _
  | .readData _ _ | .trailer _ _ | .sendToken | .sendData _ | .sendCrc0 | .sendCrc1 | .pollDresp _
  | .pollBusy _ | .postDummy _ _ _ => True

/-- The byte that the exchange of such a phase sends: a frame's own byte (R402), the token, the data and the CRC bytes of
a write (R511), and 0xFF in every other exchange (R317). -/
def exchangedByte (s : State) : Byte :=
  match s.phase with
  | .issue f => frameByte f 0
  | .frame _ f j => frameByte f j
  | .sendToken => dataStartToken
  | .sendData i => s.bufByte i
  | .sendCrc0 => s.cfg.writeCrc0
  | .sendCrc1 => s.cfg.writeCrc1
  | .idle | .clkSlow | .preambleCs | .powerDummy _ | .select _ | .preDummy _ _ | .pollR1 _ _ | .readFour _ _ _
  | .pollToken _ _ | .readData _ _ | .trailer _ _ | .pollDresp _ | .pollBusy _ | .deselect _ _
  | .postDummy _ _ _ | .clkFast | .errorExit => dummyByte

/-- `t` is `s` right after the last bus event of the transaction of `c` that returns `r`: its last post-deselect dummy
byte, or its `CS(1)` when N_POST_DUMMY = 0 (R480). -/
def txnLastEvent (c : Cmd) (r : Option Byte) (s t : State) : Prop :=
  (s.phase = .deselect c r ∧ s.cfg.nPostDummy = 0 ∧
    t = { s with
      turns := s.turns.tail, csN := true, draws := s.draws + 1
      trace := s.trace ++ [.cs true] }) ∨
  (∃ k b, s.phase = .postDummy c r k ∧ s.cfg.nPostDummy ≤ k ∧ cardReply s = some b ∧
    t = { s with
      turns := s.turns.tail, card := s.card.tail, draws := s.draws + 1
      trace := s.trace ++ [.xfer dummyByte (some b)] })

/-! ### Bounds (R731) -/

/-- Most events of the busy wait, if there is one (R445, R513). -/
def busyEvents (p : Params) : Nat := if p.writeBusyWait then p.busyPollLimit else 0

/-- The `ClkSet(FAST)` of INIT, if there is one (R479). -/
def clkEvents (p : Params) : Nat := if p.raiseClock then 1 else 0

/-- Most events of the response or data phase of a command. -/
def tailBound (p : Params) : Cmd → Nat
  | .cmd0 | .cmd55 | .acmd41 => p.r1PollLimit
  | .cmd8 | .cmd58 => p.r1PollLimit + 4
  | .cmd17 => p.tokenPollLimit + bufSize + p.nReadTrailer
  | .cmd9 => p.tokenPollLimit + csdSize + p.nReadTrailer
  | .cmd24 => 1 + bufSize + 2 + p.drespPollLimit + busyEvents p

/-- Events of `End` (R434). -/
def endBound (p : Params) : Nat := 1 + p.nPostDummy

/-- Most events of a transaction (R432). -/
def txnBound (p : Params) (c : Cmd) : Nat := 1 + p.nPreDummy + 6 + tailBound p c + endBound p

/-- Most events after the transaction of `c` in its request; `n` is the number of the attempt. -/
def afterBound (p : Params) (n : Nat) : Cmd → Nat
  | .cmd58 => clkEvents p
  | .acmd41 =>
      (p.opcondRetryLimit - n) * (txnBound p .cmd55 + txnBound p .acmd41) +
      txnBound p .cmd58 + clkEvents p
  | .cmd55 =>
      txnBound p .acmd41 + (p.opcondRetryLimit - (n + 1)) * (txnBound p .cmd55 + txnBound p .acmd41) +
      txnBound p .cmd58 + clkEvents p
  | .cmd8 =>
      p.opcondRetryLimit * (txnBound p .cmd55 + txnBound p .acmd41) +
      txnBound p .cmd58 + clkEvents p
  | .cmd0 =>
      txnBound p .cmd8 + p.opcondRetryLimit * (txnBound p .cmd55 + txnBound p .acmd41) +
      txnBound p .cmd58 + clkEvents p
  | .cmd17 | .cmd24 | .cmd9 => 0

/-- The command of the transaction that runs under a STATE code; `cmd0` where none does. -/
def stateCmd : SeqState → Cmd
  | .uninit | .reset | .ready => .cmd0
  | .voltageCheck => .cmd8
  | .appCmdPrefixSent => .cmd55
  | .operatingConditionPoll => .acmd41
  | .readOcr => .cmd58
  | .xferReadBlock => .cmd17
  | .xferWriteBlock => .cmd24
  | .xferReadCsd => .cmd9

/-- Most events of the tail of `c` from a phase of it on. -/
def tailLeft (p : Params) : Phase → Nat
  | .pollR1 c k =>
      (p.r1PollLimit + 1 - k) + (match c with
        | .cmd8 | .cmd58 => 4
        | .cmd0 | .cmd55 | .acmd41 | .cmd17 | .cmd24 | .cmd9 => 0)
  | .readFour _ j _ => 5 - j
  | .pollToken c k => (p.tokenPollLimit + 1 - k) + dataSize c + p.nReadTrailer
  | .readData c i => (dataSize c - i) + p.nReadTrailer
  | .trailer _ j => p.nReadTrailer + 1 - j
  | .sendToken => 1 + bufSize + 2 + p.drespPollLimit + busyEvents p
  | .sendData i => (bufSize - i) + 2 + p.drespPollLimit + busyEvents p
  | .sendCrc0 => 2 + p.drespPollLimit + busyEvents p
  | .sendCrc1 => 1 + p.drespPollLimit + busyEvents p
  | .pollDresp k => (p.drespPollLimit + 1 - k) + busyEvents p
  | .pollBusy k => p.busyPollLimit + 1 - k
  | .idle | .clkSlow | .preambleCs | .powerDummy _ | .select _ | .preDummy _ _ | .issue _ | .frame _ _ _
  | .deselect _ _ | .postDummy _ _ _ | .clkFast | .errorExit => 0

/-- Most bus events the running request still records, whatever the card answers (R731). -/
def eventsLeft (s : State) : Nat :=
  let p := s.cfg
  let c := stateCmd s.seqState
  let after := afterBound p s.attempts c
  let inTail := tailLeft p s.phase + endBound p + after
  match s.phase with
  | .idle => 0
  | .clkSlow => 2 + p.nPowerupDummy + txnBound p .cmd0 + afterBound p 0 .cmd0
  | .preambleCs => 1 + p.nPowerupDummy + txnBound p .cmd0 + afterBound p 0 .cmd0
  | .powerDummy k => (p.nPowerupDummy + 1 - k) + txnBound p .cmd0 + afterBound p 0 .cmd0
  | .select _ => txnBound p c + after
  | .preDummy _ k => (p.nPreDummy + 1 - k) + 6 + tailBound p c + endBound p + after
  | .issue _ => 6 + tailBound p c + endBound p + after
  | .frame _ _ j => (6 - j) + tailBound p c + endBound p + after
  | .pollR1 _ _ | .readFour _ _ _ | .pollToken _ _ | .readData _ _ | .trailer _ _ | .sendToken | .sendData _
  | .sendCrc0 | .sendCrc1 | .pollDresp _ | .pollBusy _ => inTail
  | .deselect _ _ => endBound p + after
  | .postDummy _ _ k => (p.nPostDummy + 1 - k) + after
  | .clkFast => 1
  | .errorExit => 1

/-- The table of R731: the most bus events of an accepted request. -/
def mostEvents (p : Params) : Instr → Nat
  | .init =>
      2 + p.nPowerupDummy
        + (3 + 2 * p.opcondRetryLimit) * (2 + p.nPreDummy + 6 + p.nPostDummy)
        + 8 + (3 + 2 * p.opcondRetryLimit) * p.r1PollLimit + clkEvents p
  | .readBlock =>
      2 + p.nPreDummy + 6 + p.tokenPollLimit + 512 + p.nReadTrailer + p.nPostDummy
  | .writeBlock =>
      2 + p.nPreDummy + 6 + 1 + 512 + 2 + p.drespPollLimit
        + busyEvents p + p.nPostDummy
  | .readCsd | .getCapacity =>
      2 + p.nPreDummy + 6 + p.tokenPollLimit + 16 + p.nReadTrailer + p.nPostDummy
  | .cmd0 | .cmd8 | .cmd55 | .acmd41 | .cmd17 _ | .cmd24 _ | .cmd58 | .cmd9 => 0

end Sys2Proof.Machine
end

