-- ==== Sys2Proof/Certificates/Slice0/Obligations.lean ====
section
/-! DEFINITION. The statements for the provers, from the numbered rules of spec/. A statement that says what a step
answers takes 'no host violation so far' as its premise (R622): the refusal mark is not set. -/

open Sys2Proof Sys2Proof.Machine

/-! ### Encoding -/

/-- Decoding gives back every encoded instruction, whatever the configured CRC bytes (R301, R305, R321). -/
def Obligations.DecodeReadsBackEveryEncoding : Prop :=
  ∀ (crc : FrameCrc) (i : Instr), i.wf = true → decode (encode crc i) = .ok i

/-- The other direction: a byte that decodes is the request's own opcode, and a frame that decodes is the
instruction's own in every byte but the CRC byte, which is never matched (R326). -/
def Obligations.DecodedWordIsItsEncodingButForCrc : Prop :=
  (∀ (crc : FrameCrc) (op : Byte) (i : Instr), decodeOpcode op = .ok i → encode crc i = [op]) ∧
  (∀ (crc : FrameCrc) (f : FrameWord) (i : Instr), decodeFrame f = .ok i →
    (encode crc i).take 5 = (frameBytes f).take 5 ∧ (encode crc i).length = 6)

/-- A few words of the table, written out from R305 and R321. -/
def Obligations.DecodesWordsOfTheTable : Prop :=
  decodeTableWord 8 0x01 = some .init ∧ decodeTableWord 8 0x05 = some .getCapacity ∧
  decodeTableWord 8 0x06 = none ∧ decodeTableWord 32 0xABCDEF02 = some .readBlock ∧
  decodeTableWord 48 0x400000000095 = some .cmd0 ∧ decodeTableWord 48 0x48000001AA87 = some .cmd8 ∧
  decodeTableWord 48 0x511234567801 = some (.cmd17 0x12345678) ∧
  decodeTableWord 48 0x580000020001 = some (.cmd24 0x200) ∧
  decodeTableWord 48 0xC00000000095 = none

/-- A frame is 0x40 | index, the argument big-endian in bytes 1 to 4, and the index's CRC byte (R205, R401). -/
def Obligations.FrameArgumentIsBigEndian : Prop :=
  ∀ (crc : FrameCrc) (idx : BitVec 6) (arg : Word),
    frameBytes (assembleFrame crc idx arg) =
      [0x40#8 ||| idx.setWidth 8, arg.extractLsb' 24 8, arg.extractLsb' 16 8, arg.extractLsb' 8 8,
        arg.extractLsb' 0 8, crc.lookup idx]

/-! ### A step runs the decoded instruction -/

/-- The host's 32-bit write to REQ runs the request its low byte decodes to, the host past the line and its move taken;
a reserved opcode is presented as one (R111). -/
def Obligations.StepRunsThePresentedRequest : Prop :=
  ∀ (s : State) (v : Word),
    s.refusalMark = false → whoMoves s = .host → s.program[s.hpc]? = some (.wr .word 0x000 v) →
    (∀ i, decodeRequest v = .ok i →
      step s = exec i { s with turns := s.turns.tail, hpc := s.hpc + 1 }) ∧
    (∀ e, decodeRequest v = .error e →
      step s = .next (presentReserved { s with turns := s.turns.tail, hpc := s.hpc + 1 }))

/-- The controller's step at an assembled frame runs the frame it decodes to, its move taken (R401). -/
def Obligations.StepRunsTheAssembledFrame : Prop :=
  ∀ (s : State) (f : FrameWord) (i : Instr), s.refusalMark = false → whoMoves s = .controller → s.phase = .issue f →
    decodeFrame f = .ok i → step s = exec i { s with turns := s.turns.tail }

/-- The word placed by withFetchWord is what the very next step runs (the model's interface, log 8). -/
def Obligations.PlacedWordIsRunNext : Prop :=
  ∀ (s : State) (w : Nat) (i : Instr), s.refusalMark = false →
    (∀ nbits, nbits ≤ 32 → decodeTableWord nbits w = some i →
      step (s.withFetchWord nbits w) =
        exec i { s with program := [.wr .word 0x000 (BitVec.ofNat 32 w)], hpc := 1 }) ∧
    (decodeTableWord 48 w = some i →
      step (s.withFetchWord 48 w) = exec i { s with phase := .issue (BitVec.ofNat 48 w) })

/-- Every step of the running controller records exactly one bus event; a move of the host records none, an
acceptance and a refusal included (R9). -/
def Obligations.OneBusEventAStep : Prop :=
  ∀ s t : State, step s = .next t →
    (whoMoves s = .controller → s.phase ≠ .idle → ∃ e, e ≠ .rst ∧ t.trace = s.trace ++ [e]) ∧
    (whoMoves s = .controller → s.phase = .idle → t = { s with turns := s.turns.tail }) ∧
    (whoMoves s = .host → t.trace = s.trace)

/-! ### Requests: acceptance, refusal, violation -/

/-- The accepting step of each request, whole: the latches, BUSY, the ERR fields, and the request's lines before its
first bus event (R611). The draw counter is the model's own (log 2). -/
def Obligations.AcceptedRequestStarts : Prop :=
  ∀ s : State, s.busy = false →
    (s.ready = false →
      exec .init s = .next { s with
        opLat := 0x01, aLat := s.addr, busy := true, err := .none, errCause := .none, errSite := .none,
        errState := .uninit, draws := s.draws + 1,
        attempts := 0, seqState := .reset, phase := .clkSlow }) ∧
    (s.ready = true →
      exec .readBlock s = .next { s with
        opLat := 0x02, aLat := s.addr, busy := true, err := .none, errCause := .none, errSite := .none,
        errState := .uninit, draws := s.draws + 1,
        bufValid := false, seqState := .xferReadBlock, phase := .select .cmd17 } ∧
      exec .writeBlock s = .next { s with
        opLat := 0x03, aLat := s.addr, busy := true, err := .none, errCause := .none, errSite := .none,
        errState := .uninit, draws := s.draws + 1,
        seqState := .xferWriteBlock, phase := .select .cmd24 } ∧
      exec .readCsd s = .next { s with
        opLat := 0x04, aLat := s.addr, busy := true, err := .none, errCause := .none, errSite := .none,
        errState := .uninit, draws := s.draws + 1,
        csdValid := false, seqState := .xferReadCsd, phase := .select .cmd9 } ∧
      exec .getCapacity s = .next { s with
        opLat := 0x05, aLat := s.addr, busy := true, err := .none, errCause := .none, errSite := .none,
        errState := .uninit, draws := s.draws + 1,
        csdValid := false, capValid := false, seqState := .xferReadCsd, phase := .select .cmd9 })

/-- The refusals, each whole: only the ERR fields are written (R620). -/
def Obligations.RefusedRequestWritesErrOnly : Prop :=
  ∀ s : State, s.busy = false →
    (∀ v : Word, (v.extractLsb' 0 8 = 0 ∨ 6 ≤ (v.extractLsb' 0 8).toNat) →
      runRequest v s = .next { s with
        err := .requestRefused, errCause := .reservedOp, errSite := .none, errState := s.seqState,
        draws := s.draws + 1 }) ∧
    (s.ready = true →
      exec .init s = .next { s with
        err := .requestRefused, errCause := .alreadyInitialized, errSite := .none, errState := s.seqState,
        draws := s.draws + 1 }) ∧
    (s.ready = false → ∀ i ∈ [Instr.readBlock, .writeBlock, .readCsd, .getCapacity],
      exec i s = .next { s with
        err := .requestRefused, errCause := .notInitialized, errSite := .none, errState := s.seqState,
        draws := s.draws + 1 })

/-- A REQ write while BUSY = 1 presents no request: nothing changes but HOST_VIOLATION and the model's refusal mark
(R622; log 7). -/
def Obligations.BusyRequestOnlyMarksViolation : Prop :=
  ∀ s : State, s.busy = true → ∀ v : Word,
    runRequest v s = .next { s with hostViolation := true, refusalMark := true, draws := s.draws + 1 }

/-- What no instruction's own step changes: the result registers, ADDR, the outputs, READY, and every byte of BUF and
CSD. INIT zeroes OPCOND_ATTEMPTS, and no other instruction changes it: the attempt that a frame of ACMD41 belongs to is
counted before its transaction (R475; log 12). A frame whose first byte fails with the card deselected, which no
transaction does (R436), is the one case that takes values from a buffer (R613). -/
def Obligations.InstructionStepFrame : Prop :=
  ∀ (i : Instr) (s t : State), exec i s = .next t →
    t.r1 = s.r1 ∧ t.r7 = s.r7 ∧ t.ocr = s.ocr ∧ t.dresp = s.dresp ∧ t.csize = s.csize ∧ t.capKib = s.capKib ∧
    t.addr = s.addr ∧ t.csN = s.csN ∧ t.clkSel = s.clkSel ∧ t.ready = s.ready ∧ t.cfg = s.cfg ∧
    t.program = s.program ∧ t.hpc = s.hpc ∧ t.turns = s.turns ∧ t.replies = s.replies ∧
    (i ≠ .init → t.attempts = s.attempts ∧ t.opcondAttempts = s.opcondAttempts) ∧
    (s.busy = false → t.hostViolation = s.hostViolation ∧ t.refusalMark = s.refusalMark) ∧
    (i ≠ .readBlock → t.bufValid = s.bufValid) ∧
    (i ≠ .readCsd → i ≠ .getCapacity → t.csdValid = s.csdValid) ∧
    (i ≠ .getCapacity → t.capValid = s.capValid) ∧
    (i.opcode.isSome → t.trace = s.trace ∧ t.card = s.card ∧ ∀ a, t.byteAt a = s.byteAt a) ∧
    (i.opcode = none → t.opLat = s.opLat ∧ t.aLat = s.aLat ∧ t.hostViolation = s.hostViolation ∧
      t.refusalMark = s.refusalMark ∧
      (s.csN = false ∨ cardReply s ≠ none → t.seqState = s.seqState ∧ t.busy = s.busy ∧
        ∀ a, t.byteAt a = s.byteAt a))

/-! ### Frames -/

/-- Each of CMD0, CMD8, CMD55, ACMD41, CMD17, CMD24, CMD58 and CMD9 (`c.instr a`, `a` the operand of CMD17 and CMD24),
when the transport answers: byte 0 of its frame is sent, bytes 1 to 5 are next, and nothing else changes
(R403 to R410; the frame's step is log 11, and that ACMD41's attempt is already counted then is log 12). -/
def Obligations.FrameSendsItsFirstByte : Prop :=
  ∀ (c : Cmd) (a : Word) (s : State) (b : Byte), cardReply s = some b →
    exec (c.instr a) s = .next { s with
      trace := s.trace ++ [.xfer (0x40#8 ||| c.index.setWidth 8) (some b)]
      card := s.card.tail
      draws := s.draws + 1
      phase := .frame c (assembleFrame s.cfg.frameCrc c.index (c.argument a)) 1 }

/-- `SendFrame` (R402): six exchanges carry bytes 0 to 5 in order, then the command's response or data phase is next
(R432, R305); if the transport fails on byte `j`, BusError is raised there and no later byte is sent. Nothing else
changes. -/
def Obligations.FrameIsSixExchangesOrStopsAtAFailure : Prop :=
  ∀ (c : Cmd) (a : Word) (s : State) (f : FrameWord), s.refusalMark = false → s.turns = [] → s.busy = true →
    f = assembleFrame s.cfg.frameCrc c.index (c.argument a) → s.phase = .issue f →
    (∀ (ins : List Byte) (rest : List (Option Byte)), ins.length = 6 → s.card = ins.map some ++ rest →
      steps 6 s = .next { s with
        trace := s.trace ++ exchanges (frameBytes f) ins
        card := rest
        draws := s.draws + 6
        phase := match c with
          | .cmd0 | .cmd8 | .cmd55 | .acmd41 | .cmd58 => .pollR1 c 1
          | .cmd17 | .cmd9 => .pollToken c 1
          | .cmd24 => .sendToken }) ∧
    (∀ (ins : List Byte) (rest : List (Option Byte)), ins.length < 6 → s.card = ins.map some ++ none :: rest →
      ∃ t, steps (ins.length + 1) s = .next t ∧
        t.trace = s.trace ++ exchanges ((frameBytes f).take ins.length) ins ++
          [.xfer (frameByte f ins.length) none] ∧
        t.csN = s.csN ∧ t.attempts = s.attempts ∧
        (s.csN = false → t.phase = .errorExit) ∧ (s.csN = true → t.busy = false) ∧
        (s.opLat ≠ 0x01 → t.err = .busError ∧ t.errCause = .none) ∧
        (s.opLat = 0x01 → t.err = .initializationFailed ∧ t.errCause = .innerBusError) ∧ t.errSite = .none)

/-- ACMD41's transaction starts only where APP_CMD_PREFIX's ends (R306), and every APP_CMD_PREFIX transaction that
completes ends so (R405, R471, R474, R475): its last step, in which R1 takes the response (log 13), counts the attempt
in OPCOND_ATTEMPTS (R108, R133; that it is this step is log 12) and goes on to ACMD41's transaction. -/
def Obligations.OpCondFollowsItsPrefix : Prop :=
  (∀ s t : State, whoMoves s = .controller → step s = .next t → t.phase = .select .acmd41 →
    ∃ r, (s.phase = .deselect .cmd55 r ∨ ∃ k, s.phase = .postDummy .cmd55 r k) ∧
      t.attempts = s.attempts + 1 ∧ t.opcondAttempts = s.opcondAttempts + 1 ∧
      t.seqState = .operatingConditionPoll) ∧
  (∀ (s t : State) (r : Byte), s.refusalMark = false → whoMoves s = .controller →
    txnLastEvent .cmd55 (some r) s t →
    step s = .next { t with
      r1 := r, seqState := .operatingConditionPoll, attempts := s.attempts + 1, phase := .select .acmd41 })

/-- Every frame that stands ready to be sent is the frame of one of the eight commands, of the running request, with
the card selected (R305, R411). -/
def Obligations.OnlyTheEightCommandsAreSent : Prop :=
  ∀ (s : State) (f : FrameWord), Inv s → s.phase = .issue f →
    ∃ c : Cmd, f = assembleFrame s.cfg.frameCrc c.index (c.argument s.aLat) ∧
      decodeFrame f = .ok (c.instr s.aLat) ∧ s.csN = false ∧ cmdSentBy c s.opLat

/-! ### The error exit -/

/-- A failed exchange, in whatever phase: X(o, ⊥) is recorded, o the byte the phase sends, BusError is raised in the
same step, and the error exit is taken, through `CsSet(1)` if the card is selected (R604, R612, R615). What the buffers
hold after the exit's last step is FailedFillHoldsNoValue's. -/
def Obligations.FailedExchangeRaisesBusError : Prop :=
  ∀ s : State, s.refusalMark = false → whoMoves s = .controller → exchangePhase s.phase → cardReply s = none →
    ∃ t, step s = .next t ∧ t.trace = s.trace ++ [.xfer (exchangedByte s) none] ∧
      (s.opLat = 0x01 → t.err = .initializationFailed ∧ t.errCause = .innerBusError) ∧
      (s.opLat ≠ 0x01 → t.err = .busError ∧ t.errCause = .none) ∧
      t.errSite = .none ∧ t.errState = s.seqState ∧ t.ready = s.ready ∧ t.csN = s.csN ∧
      (s.csN = false → t.busy = s.busy ∧ t.seqState = s.seqState ∧ t.phase = .errorExit ∧
        ∀ a, t.byteAt a = s.byteAt a) ∧
      (s.csN = true → t.busy = false ∧ t.phase = .idle ∧
        t.seqState = if s.ready then .ready else .uninit)

/-- The exit's own step (R612): `CsSet(1)`, then STATE, BUSY; the ERR fields, READY and the results keep their
values. -/
def Obligations.ErrorExitDeselectsAndIdles : Prop :=
  ∀ s : State, s.refusalMark = false → whoMoves s = .controller → s.phase = .errorExit →
    ∃ m, step s = .next { s with
      turns := s.turns.tail, trace := s.trace ++ [.cs true], csN := true, draws := s.draws + 1
      seqState := if s.ready then .ready else .uninit
      busy := false, phase := .idle, mem := m }

/-- The codes an error leaves in STATUS (R601 to R603): inside INIT always INITIALIZATION_FAILED with the inner kind as
cause, elsewhere the error's own. -/
def Obligations.RaisedErrorCodes : Prop :=
  ∀ (s : State) (e : Error),
    let t := raise e s
    (t.errState = s.seqState) ∧
    (s.opLat = 0x01 → t.err.code = 3) ∧
    (s.opLat = 0x01 → e = .busError → t.errCause.code = 1 ∧ t.errSite.code = 0) ∧
    (s.opLat = 0x01 → ∀ site, e = .deviceNotResponding site → t.errCause.code = 2 ∧ t.errSite = site) ∧
    (s.opLat = 0x01 → e = .unexpectedResponse → t.errCause.code = 3 ∧ t.errSite.code = 0) ∧
    (s.opLat ≠ 0x01 → e = .busError → t.err.code = 1 ∧ t.errCause.code = 0 ∧ t.errSite.code = 0) ∧
    (s.opLat ≠ 0x01 → ∀ site, e = .deviceNotResponding site →
      t.err.code = 2 ∧ t.errCause.code = 0 ∧ t.errSite = site) ∧
    (s.opLat ≠ 0x01 → ∀ d : Byte, e = .writeRejected d →
      t.err.code = 4 ∧ t.errSite.code = 0 ∧
      t.errCause.code = if d &&& 0x1F = 0x0B then 1#4 else if d &&& 0x1F = 0x0D then 2#4 else 15#4)

/-- After the error exit's last step, whichever it is, the buffer the request was filling holds no value, and every
other byte what it held; after WRITE_BLOCK's and INIT's every byte does (R613). The last step is the exit's `CsSet(1)`,
or with the card deselected the step that raises the error: a failed dummy byte, or an INIT judged to have failed. -/
def Obligations.FailedFillHoldsNoValue : Prop :=
  ∀ s t : State, whoMoves s = .controller → step s = .next t →
    s.phase = .errorExit ∨ (s.csN = true ∧ exchangePhase s.phase ∧ cardReply s = none) ∨
      (Inv s ∧ s.busy = true ∧ t.busy = false ∧ t.err ≠ .none) →
    (s.opLat = 0x02 → (∀ i, i < 512 → t.byteAt (0x200 + i) = none) ∧
      ∀ a, a < 0x200 ∨ 0x400 ≤ a → t.byteAt a = s.byteAt a) ∧
    (s.opLat = 0x04 ∨ s.opLat = 0x05 → (∀ i, i < 16 → t.byteAt (0x100 + i) = none) ∧
      ∀ a, a < 0x100 ∨ 0x110 ≤ a → t.byteAt a = s.byteAt a) ∧
    (s.opLat ≠ 0x02 → s.opLat ≠ 0x04 → s.opLat ≠ 0x05 → ∀ a, t.byteAt a = s.byteAt a)

/-! ### Bounded polls -/

/-- One byte of each bounded poll that does not match (R441 to R445): within the bound the next byte is polled, at the
bound DeviceNotResponding is raised with the poll's site; nothing else changes. -/
def Obligations.PollSkipsOrExpires : Prop :=
  ∀ (s : State) (b : Byte), s.refusalMark = false → whoMoves s = .controller → cardReply s = some b →
    let t : State := { s with
      turns := s.turns.tail, card := s.card.tail, draws := s.draws + 1
      trace := s.trace ++ [.xfer 0xFF (some b)] }
    (∀ c k, s.phase = .pollR1 c k → b.getLsbD 7 = true →
      (k < s.cfg.r1PollLimit → step s = .next { t with phase := .pollR1 c (k + 1) }) ∧
      (s.cfg.r1PollLimit ≤ k → step s = .next (raise (.deviceNotResponding .r1Poll) t))) ∧
    (∀ c k, s.phase = .pollToken c k → b ≠ 0xFE →
      (k < s.cfg.tokenPollLimit → step s = .next { t with phase := .pollToken c (k + 1) }) ∧
      (s.cfg.tokenPollLimit ≤ k → step s = .next (raise (.deviceNotResponding .tokenPoll) t))) ∧
    (∀ k, s.phase = .pollDresp k → b &&& 0x11 ≠ 0x01 →
      (k < s.cfg.drespPollLimit → step s = .next { t with phase := .pollDresp (k + 1) }) ∧
      (s.cfg.drespPollLimit ≤ k → step s = .next (raise (.deviceNotResponding .drespPoll) t))) ∧
    (∀ k, s.phase = .pollBusy k → b = 0x00 →
      (k < s.cfg.busyPollLimit → step s = .next { t with phase := .pollBusy (k + 1) }) ∧
      (s.cfg.busyPollLimit ≤ k → step s = .next (raise (.deviceNotResponding .busyPoll) t)))

/-- The byte that matches ends the poll and is consumed (R441): an R1 byte is returned, or stored before the four
trailing bytes; the token starts the data phase; a byte that is not 0x00 ends the busy wait. In which step R1 is
written is the model's reading of R471 (log 13). -/
def Obligations.PollMatchEndsThePoll : Prop :=
  ∀ (s : State) (b : Byte), s.refusalMark = false → whoMoves s = .controller → cardReply s = some b →
    let t : State := { s with
      turns := s.turns.tail, card := s.card.tail, draws := s.draws + 1
      trace := s.trace ++ [.xfer 0xFF (some b)] }
    (∀ c k, s.phase = .pollR1 c k → b.getLsbD 7 = false →
      (c = .cmd8 ∨ c = .cmd58 → step s = .next { t with r1 := b, phase := .readFour c 1 0 }) ∧
      (c = .cmd0 ∨ c = .cmd55 ∨ c = .acmd41 → step s = .next { t with phase := .deselect c (some b) })) ∧
    (∀ c k, s.phase = .pollToken c k → b = 0xFE → step s = .next { t with phase := .readData c 0 }) ∧
    (∀ k, s.phase = .pollBusy k → b ≠ 0x00 → step s = .next { t with phase := .deselect .cmd24 none })

/-- The data-response token (R512): the first byte of the poll with the token's pattern is stored in DRESP, and no
other byte is; an accepted write goes on to the busy wait or the deselect, every other token raises WriteRejected with
the ERR_CAUSE of its status. -/
def Obligations.DataResponseDecidesTheWrite : Prop :=
  ∀ (s : State) (d : Byte) (k : Nat),
    s.refusalMark = false → whoMoves s = .controller → s.phase = .pollDresp k → cardReply s = some d →
    let t : State := { s with
      turns := s.turns.tail, card := s.card.tail, draws := s.draws + 1
      trace := s.trace ++ [.xfer 0xFF (some d)], dresp := d }
    (d &&& 0x11 = 0x01 → d &&& 0x1F = 0x05 → s.cfg.writeBusyWait = true →
      step s = .next { t with phase := .pollBusy 1 }) ∧
    (d &&& 0x11 = 0x01 → d &&& 0x1F = 0x05 → s.cfg.writeBusyWait = false →
      step s = .next { t with phase := .deselect .cmd24 none }) ∧
    (d &&& 0x11 = 0x01 → d &&& 0x1F ≠ 0x05 →
      step s = .next (raise (.writeRejected d) t) ∧ (raise (.writeRejected d) t).dresp = d ∧
      (s.opLat = 0x03 → (raise (.writeRejected d) t).err.code = 4 ∧
        (raise (.writeRejected d) t).errCause.code =
          if d &&& 0x1F = 0x0B then 1#4 else if d &&& 0x1F = 0x0D then 2#4 else 15#4)) ∧
    (d &&& 0x11 ≠ 0x01 → ∃ u, step s = .next u ∧ u.dresp = s.dresp)

/-- `Read4` (R446): four bytes, most significant first, go to R7 or OCR in the step of the fourth. -/
def Obligations.FourTrailingBytesAreBigEndian : Prop :=
  ∀ (s : State) (c : Cmd) (b1 b2 b3 b4 : Byte) (rest : List (Option Byte)),
    s.refusalMark = false → s.turns = [] → s.busy = true →
    (c = .cmd8 ∨ c = .cmd58) → s.phase = .readFour c 1 0 →
    s.card = some b1 :: some b2 :: some b3 :: some b4 :: rest →
    ∃ t, steps 4 s = .next t ∧ t.trace = s.trace ++ reads [b1, b2, b3, b4] ∧ t.card = rest ∧
      t.phase = .deselect c none ∧
      (c = .cmd8 → t.ocr = s.ocr ∧ t.r7 = b1 ++ b2 ++ b3 ++ b4) ∧
      (c = .cmd58 → t.r7 = s.r7 ∧ t.ocr = b1 ++ b2 ++ b3 ++ b4)

/-! ### Initialisation -/

/-- The preamble (R437): `CLK(SLOW)`, `CS(1)`, N_POWERUP_DUMMY dummy bytes, then the first transaction. -/
def Obligations.PreambleClocksTheDeselectedCard : Prop :=
  ∀ (s : State) (ins : List Byte) (rest : List (Option Byte)), s.refusalMark = false → s.turns = [] → s.busy = true →
    s.phase = .clkSlow → ins.length = s.cfg.nPowerupDummy → s.card = ins.map some ++ rest →
    steps (2 + s.cfg.nPowerupDummy) s = .next { s with
      clkSel := .slow, csN := true
      trace := s.trace ++ [.clk .slow, .cs true] ++ reads ins
      card := rest, draws := s.draws + (2 + s.cfg.nPowerupDummy)
      phase := .select .cmd0 }

/-- The SEND_OP_COND response judged in the last step of its transaction (R477, R478), under either polarity; `t` is
the state right after that step's bus event. That R1 takes the response in this step is log 13. -/
def Obligations.OpCondResponseIsJudged : Prop :=
  ∀ (s t : State) (r : Byte), s.refusalMark = false → whoMoves s = .controller → txnLastEvent .acmd41 (some r) s t →
    let initializing : Prop :=
      (s.cfg.opcondPolarity = .protocol ∧ r ≠ 0x00) ∨ (s.cfg.opcondPolarity = .reference ∧ r = 0x00)
    (¬ initializing → step s = .next { t with r1 := r, seqState := .readOcr, phase := .select .cmd58 }) ∧
    (initializing → s.attempts ≠ s.cfg.opcondRetryLimit →
      step s = .next { t with r1 := r, seqState := .appCmdPrefixSent, phase := .select .cmd55 }) ∧
    (initializing → s.attempts = s.cfg.opcondRetryLimit →
      step s = .next (raise (.deviceNotResponding .opcondRetry) { t with r1 := r }))

/-- The STRICT_INIT checks (R480), in the last step of the checked transaction; without STRICT_INIT no value is
checked. That R1 takes RESET's response in this step is log 13. -/
def Obligations.StrictInitChecksResponses : Prop :=
  ∀ (s t : State) (r : Option Byte) (c : Cmd),
    s.refusalMark = false → whoMoves s = .controller → txnLastEvent c r s t →
    (∀ v, c = .cmd0 → r = some v →
      (s.cfg.strictInit = true ∧ v ≠ 0x01 → step s = .next (raise .unexpectedResponse { t with r1 := v })) ∧
      (s.cfg.strictInit = false ∨ v = 0x01 →
        step s = .next { t with r1 := v, seqState := .voltageCheck, phase := .select .cmd8 })) ∧
    (c = .cmd8 →
      let ok : Prop := s.r1 = 0x01 ∧ s.r7.extractLsb' 8 4 = 0x1#4 ∧ s.r7.extractLsb' 0 8 = 0xAA#8
      (s.cfg.strictInit = true ∧ ¬ ok → step s = .next (raise .unexpectedResponse t)) ∧
      (s.cfg.strictInit = false ∨ ok →
        step s = .next { t with seqState := .appCmdPrefixSent, phase := .select .cmd55 })) ∧
    (c = .cmd58 →
      let ok : Prop := s.r1 = 0x00 ∧ s.ocr.getLsbD 31 = true
      (s.cfg.strictInit = true ∧ ¬ ok → step s = .next (raise .unexpectedResponse t)) ∧
      ((s.cfg.strictInit = false ∨ ok) → s.cfg.raiseClock = true → step s = .next { t with phase := .clkFast }) ∧
      ((s.cfg.strictInit = false ∨ ok) → s.cfg.raiseClock = false →
        step s = .next { t with ready := true, seqState := .ready, busy := false, phase := .idle }))

/-- A whole INIT against a card that answers each poll at its first byte and is ready at the first SEND_OP_COND
(R471, R484 with n = 1 and every p = 1), under any dummy counts and CRC table: the trace event by event, and the end
state. -/
def Obligations.InitBringsTheCardUp : Prop :=
  ∀ (s : State) (up p0 f0 q0 p1 f1 q1 p2 f2 q2 p3 f3 q3 p4 f4 q4 : List Byte)
    (r0 r1 r2 r4 v1 v2 v3 v4 o1 o2 o3 o4 : Byte) (rest : List (Option Byte)),
    s.refusalMark = false → s.busy = false → s.ready = false → s.turns = [] →
    s.cfg.strictInit = false → s.cfg.opcondPolarity = .protocol →
    up.length = s.cfg.nPowerupDummy →
    (∀ l ∈ [p0, p1, p2, p3, p4], l.length = s.cfg.nPreDummy) →
    (∀ l ∈ [f0, f1, f2, f3, f4], l.length = 6) →
    (∀ l ∈ [q0, q1, q2, q3, q4], l.length = s.cfg.nPostDummy) →
    (∀ b ∈ [r0, r1, r2, r4], b.getLsbD 7 = false) →
    s.card =
      (up ++ (p0 ++ f0 ++ [r0] ++ q0) ++ (p1 ++ f1 ++ [r1, v1, v2, v3, v4] ++ q1) ++ (p2 ++ f2 ++ [r2] ++ q2) ++
        (p3 ++ f3 ++ [0x00] ++ q3) ++ (p4 ++ f4 ++ [r4, o1, o2, o3, o4] ++ q4)).map some ++ rest →
    let frame := assembleFrame s.cfg.frameCrc
    ∃ t u, exec .init s = .next t ∧
      steps (2 + s.cfg.nPowerupDummy + 5 * (2 + s.cfg.nPreDummy + 6 + s.cfg.nPostDummy) + 8 + 5 +
        (if s.cfg.raiseClock then 1 else 0)) t = .next u ∧
      u.trace = s.trace ++ [.clk .slow, .cs true] ++ reads up ++
        txnEvents (frame 0 0) p0 f0 (reads [r0]) q0 ++
        txnEvents (frame 8 0x000001AA) p1 f1 (reads [r1, v1, v2, v3, v4]) q1 ++
        txnEvents (frame 55 0) p2 f2 (reads [r2]) q2 ++
        txnEvents (frame 41 0x40000000) p3 f3 (reads [0x00]) q3 ++
        txnEvents (frame 58 0) p4 f4 (reads [r4, o1, o2, o3, o4]) q4 ++
        (if s.cfg.raiseClock then [.clk .fast] else []) ∧
      u.ready = true ∧ u.busy = false ∧ u.seqState = .ready ∧ u.phase = .idle ∧ u.csN = true ∧
      u.clkSel = (if s.cfg.raiseClock then .fast else .slow) ∧
      u.err = .none ∧ u.errCause = .none ∧ u.errSite = .none ∧ u.errState = .uninit ∧
      u.r1 = r4 ∧ u.r7 = v1 ++ v2 ++ v3 ++ v4 ∧ u.ocr = o1 ++ o2 ++ o3 ++ o4 ∧ u.attempts = 1 ∧ u.opcondAttempts = 1 ∧
      u.bufValid = s.bufValid ∧ u.csdValid = s.csdValid ∧ u.capValid = s.capValid ∧
      u.card = rest ∧ (∀ a, u.byteAt a = s.byteAt a)

/-! ### Block transfer and register query -/

/-- A READ_BLOCK whose token comes after `skipped` other bytes (R501 to R504, R506): the trace event by event, the 512
bytes after the token in BUF in order, the flags, and no other byte changed. -/
def Obligations.ReadBlockFillsBuf : Prop :=
  ∀ (s : State) (pre fr skipped data trail post : List Byte) (rest : List (Option Byte)),
    s.refusalMark = false → s.busy = false → s.ready = true → s.turns = [] →
    pre.length = s.cfg.nPreDummy → fr.length = 6 → data.length = 512 →
    trail.length = s.cfg.nReadTrailer → post.length = s.cfg.nPostDummy →
    skipped.length < s.cfg.tokenPollLimit → (∀ b ∈ skipped, b ≠ 0xFE) →
    s.card = (pre ++ fr ++ skipped ++ [0xFE] ++ data ++ trail ++ post).map some ++ rest →
    ∃ t u, exec .readBlock s = .next t ∧
      steps (2 + s.cfg.nPreDummy + 6 + (skipped.length + 1) + 512 + s.cfg.nReadTrailer + s.cfg.nPostDummy) t =
        .next u ∧
      u.trace = s.trace ++ txnEvents (assembleFrame s.cfg.frameCrc 17 s.addr) pre fr
        (reads (skipped ++ [0xFE] ++ data ++ trail)) post ∧
      (∀ i, i < 512 → u.byteAt (0x200 + i) = data[i]?) ∧
      (∀ a, a < 0x200 ∨ 0x400 ≤ a → u.byteAt a = s.byteAt a) ∧
      u.bufValid = true ∧ u.busy = false ∧ u.ready = true ∧ u.seqState = .ready ∧ u.phase = .idle ∧
      u.csN = true ∧ u.err = .none ∧ u.errCause = .none ∧ u.errSite = .none ∧ u.errState = .uninit ∧
      u.csdValid = s.csdValid ∧ u.capValid = s.capValid ∧ u.clkSel = s.clkSel ∧ u.card = rest

/-- A WRITE_BLOCK that the card accepts (R511 to R513, R516): the 512 bytes of BUF in order after the token, the CRC
bytes, the response poll, the busy wait when it is configured; BUF and BUF_VALID unchanged. BUF holds the values
`data`, so that no byte sent is a draw. -/
def Obligations.WriteBlockSendsBuf : Prop :=
  ∀ (s : State) (pre fr sent noDresp busyBytes post data : List Byte) (d nb : Byte) (rest : List (Option Byte)),
    s.refusalMark = false → s.busy = false → s.ready = true → s.turns = [] →
    pre.length = s.cfg.nPreDummy → fr.length = 6 → sent.length = 515 → post.length = s.cfg.nPostDummy →
    data.length = 512 → (∀ i, i < 512 → s.byteAt (0x200 + i) = data[i]?) →
    noDresp.length < s.cfg.drespPollLimit → (∀ b ∈ noDresp, b &&& 0x11 ≠ 0x01) →
    d &&& 0x11 = 0x01 → d &&& 0x1F = 0x05 →
    busyBytes.length < s.cfg.busyPollLimit → (∀ b ∈ busyBytes, b = 0x00) → nb ≠ 0x00 →
    let busyRead := if s.cfg.writeBusyWait then busyBytes ++ [nb] else []
    s.card = (pre ++ fr ++ sent ++ noDresp ++ [d] ++ busyRead ++ post).map some ++ rest →
    ∃ t u, exec .writeBlock s = .next t ∧
      steps (2 + s.cfg.nPreDummy + 6 + 1 + 512 + 2 + (noDresp.length + 1) + busyRead.length + s.cfg.nPostDummy) t =
        .next u ∧
      u.trace = s.trace ++ txnEvents (assembleFrame s.cfg.frameCrc 24 s.addr) pre fr
        (exchanges ([0xFE] ++ data ++ [s.cfg.writeCrc0, s.cfg.writeCrc1]) sent ++
          reads (noDresp ++ [d] ++ busyRead)) post ∧
      u.dresp = d ∧ (∀ a, u.byteAt a = s.byteAt a) ∧ u.bufValid = s.bufValid ∧ u.csdValid = s.csdValid ∧
      u.capValid = s.capValid ∧
      u.busy = false ∧ u.ready = true ∧ u.seqState = .ready ∧ u.phase = .idle ∧ u.csN = true ∧
      u.err = .none ∧ u.errCause = .none ∧ u.errSite = .none ∧ u.errState = .uninit ∧
      u.clkSel = s.clkSel ∧ u.card = rest

/-- READ_CSD and GET_CAPACITY (R531, R532, R534, R541): the same transaction fills CSD in order; GET_CAPACITY's last
step also computes the capacity from it, READ_CSD leaves the capacity registers and CAP_VALID alone. -/
def Obligations.CsdRequestsFillCsd : Prop :=
  ∀ (s : State) (pre fr skipped data trail post : List Byte) (rest : List (Option Byte)) (i : Instr),
    (i = .readCsd ∨ i = .getCapacity) → s.refusalMark = false → s.busy = false → s.ready = true → s.turns = [] →
    pre.length = s.cfg.nPreDummy → fr.length = 6 → data.length = 16 →
    trail.length = s.cfg.nReadTrailer → post.length = s.cfg.nPostDummy →
    skipped.length < s.cfg.tokenPollLimit → (∀ b ∈ skipped, b ≠ 0xFE) →
    s.card = (pre ++ fr ++ skipped ++ [0xFE] ++ data ++ trail ++ post).map some ++ rest →
    ∃ t u, exec i s = .next t ∧
      steps (2 + s.cfg.nPreDummy + 6 + (skipped.length + 1) + 16 + s.cfg.nReadTrailer + s.cfg.nPostDummy) t =
        .next u ∧
      u.trace = s.trace ++ txnEvents (assembleFrame s.cfg.frameCrc 9 0) pre fr
        (reads (skipped ++ [0xFE] ++ data ++ trail)) post ∧
      (∀ j, j < 16 → u.byteAt (0x100 + j) = data[j]?) ∧
      (∀ a, a < 0x100 ∨ 0x110 ≤ a → u.byteAt a = s.byteAt a) ∧
      u.csdValid = true ∧ u.busy = false ∧ u.ready = true ∧ u.seqState = .ready ∧ u.phase = .idle ∧
      u.csN = true ∧ u.err = .none ∧ u.errCause = .none ∧ u.errSite = .none ∧ u.errState = .uninit ∧
      u.bufValid = s.bufValid ∧ u.clkSel = s.clkSel ∧ u.card = rest ∧
      (i = .readCsd → u.csize = s.csize ∧ u.capKib = s.capKib ∧ u.capValid = s.capValid) ∧
      (i = .getCapacity → u.capValid = true ∧ ∃ b7 b8 b9 : Byte, data[7]? = some b7 ∧ data[8]? = some b8 ∧
        data[9]? = some b9 ∧ u.csize.toNat = (b7.toNat % 64) * 65536 + b8.toNat * 256 + b9.toNat ∧
        u.capKib.toNat = (u.csize.toNat + 1) * 512)

/-- One byte of a data phase of READ_BLOCK (`cmd17`) or of READ_CSD and GET_CAPACITY (`cmd9`), the byte of index `i`
(R206, R207, R447): 0xFF is sent, the byte received is stored in the step of its exchange whatever its value, and
nothing else of the block changes but the position. -/
def Obligations.DataByteIsStoredInItsStep : Prop :=
  ∀ (s : State) (c : Cmd) (i : Nat) (b : Byte),
    s.refusalMark = false → whoMoves s = .controller → s.phase = .readData c i →
    cardReply s = some b → (c = .cmd17 ∧ i < 512) ∨ (c = .cmd9 ∧ i < 16) →
    let a := (if c = .cmd17 then 0x200 else 0x100) + i
    let last := (if c = .cmd17 then 511 else 15)
    ∃ m p, step s = .next { s with
        turns := s.turns.tail, card := s.card.tail, draws := s.draws + 1
        trace := s.trace ++ [.xfer 0xFF (some b)], mem := m, phase := p } ∧
      m.read a = some b ∧ (∀ x, x ≠ a → m.read x = s.mem.read x) ∧
      (i < last → p = .readData c (i + 1)) ∧
      (i = last → p = if s.cfg.nReadTrailer = 0 then .deselect c none else .trailer c 1)

/-- The data phase of WRITE_BLOCK, one step each (R206, R511): the token 0xFE, BUF[i] for the byte of index `i`, the
two placeholder CRC bytes; what the card answers is discarded. A BUF byte that holds no value is sent as some byte. -/
def Obligations.WritePhaseSendsTokenDataCrc : Prop :=
  ∀ (s : State) (b : Byte), s.refusalMark = false → whoMoves s = .controller → cardReply s = some b →
    let sent (o : Byte) (p : Phase) : Prop := step s = .next { s with
      turns := s.turns.tail, card := s.card.tail, draws := s.draws + 1
      trace := s.trace ++ [.xfer o (some b)], phase := p }
    (s.phase = .sendToken → sent 0xFE (.sendData 0)) ∧
    (∀ i, s.phase = .sendData i → i < 512 →
      (∀ v, s.byteAt (0x200 + i) = some v → sent v (if i = 511 then .sendCrc0 else .sendData (i + 1))) ∧
      (s.byteAt (0x200 + i) = none → ∃ v, sent v (if i = 511 then .sendCrc0 else .sendData (i + 1)))) ∧
    (s.phase = .sendCrc0 → sent s.cfg.writeCrc0 .sendCrc1) ∧
    (s.phase = .sendCrc1 → sent s.cfg.writeCrc1 (.pollDresp 1))

/-- A card that answers every byte with 0xFF (R507): the READ_BLOCK ends after TOKEN_POLL_LIMIT polled bytes and the
exit's `CS(1)` with DEVICE_NOT_RESPONDING at the token poll. -/
def Obligations.SilentCardEndsTheRead : Prop :=
  ∀ (s : State) (rest : List (Option Byte)),
    s.refusalMark = false → s.busy = false → s.ready = true → s.turns = [] → s.cfg.wf = true →
    s.card = List.replicate (s.cfg.nPreDummy + 6 + s.cfg.tokenPollLimit) (some 0xFF) ++ rest →
    ∃ t u, exec .readBlock s = .next t ∧
      steps (2 + s.cfg.nPreDummy + 6 + s.cfg.tokenPollLimit) t = .next u ∧
      u.trace = s.trace ++ [.cs false] ++ reads (List.replicate s.cfg.nPreDummy 0xFF) ++
        exchanges (frameBytes (assembleFrame s.cfg.frameCrc 17 s.addr)) (List.replicate 6 0xFF) ++
        reads (List.replicate s.cfg.tokenPollLimit 0xFF) ++ [.cs true] ∧
      u.err = .deviceNotResponding ∧ u.errCause = .none ∧ u.errSite = .tokenPoll ∧ u.errState = .xferReadBlock ∧
      u.busy = false ∧ u.ready = true ∧ u.seqState = .ready ∧ u.bufValid = false ∧ u.csN = true ∧
      (∀ i, i < 512 → u.byteAt (0x200 + i) = none)

/-- `CSizeOf` and `CapKiB` as numbers (R542, R543): the 22 low bits of the three bytes, and the exact product. -/
def Obligations.CapacityArithmeticIsExact : Prop :=
  (∀ b7 b8 b9 : Byte, (cSizeOf b7 b8 b9).toNat = (b7.toNat % 64) * 65536 + b8.toNat * 256 + b9.toNat) ∧
  (∀ c : BitVec 22, (capKibOf c).toNat = (c.toNat + 1) * 512)

/-! ### Every request ends -/

/-- The bound of an accepted request is the table of R731. -/
def Obligations.AcceptedRequestHasTheTableBound : Prop :=
  ∀ (s t : State) (i : Instr), i ∈ [Instr.init, .readBlock, .writeBlock, .readCsd, .getCapacity] →
    s.busy = false → exec i s = .next t → t.busy = true → eventsLeft t = mostEvents s.cfg i

/-- Every step of a running request uses up at least one event of what it has left, whatever the card answers. -/
def Obligations.ControllerStepLowersTheBound : Prop :=
  ∀ s t : State, Inv s → s.busy = true → whoMoves s = .controller → step s = .next t →
    eventsLeft t + 1 ≤ eventsLeft s

/-- Every accepted request ends within the bound of R731 when only the controller moves: BUSY = 0, the card deselected,
and no more than the bound of bus events recorded (R449, R731). -/
def Obligations.EveryAcceptedRequestEnds : Prop :=
  ∀ (s t : State) (i : Instr), Inv s → s.refusalMark = false → s.turns = [] →
    i ∈ [Instr.init, .readBlock, .writeBlock, .readCsd, .getCapacity] →
    s.busy = false → exec i s = .next t → t.busy = true →
    ∃ n u, n ≤ mostEvents s.cfg i ∧ steps n t = .next u ∧ u.busy = false ∧ u.csN = true ∧
      u.trace.length = t.trace.length + n ∧ (u.seqState = .ready ∨ u.seqState = .uninit)

/-! ### The host port -/

/-- The fields of STATUS stand where R112 puts them, and each code of STATE, ERR, ERR_CAUSE and ERR_SITE is the number
of R131, R601, R602 and R603. -/
def Obligations.StatusFieldsAreWhereTheyStand : Prop :=
  (∀ s : State,
    let w := statusWord s
    w.getLsbD 0 = s.busy ∧ w.getLsbD 1 = s.ready ∧ w.getLsbD 2 = s.bufValid ∧ w.getLsbD 3 = s.csdValid ∧
    w.getLsbD 4 = s.capValid ∧ w.getLsbD 5 = decide (s.clkSel = .fast) ∧ w.getLsbD 6 = !s.csN ∧
    w.getLsbD 7 = s.hostViolation ∧ w.extractLsb' 8 4 = s.err.code ∧ w.extractLsb' 12 4 = s.errCause.code ∧
    w.extractLsb' 16 4 = s.errSite.code ∧ w.extractLsb' 20 4 = s.seqState.code ∧
    w.extractLsb' 24 4 = s.errState.code ∧ w.extractLsb' 28 4 = 0#4) ∧
  (SeqState.uninit.code = 0 ∧ SeqState.reset.code = 1 ∧ SeqState.voltageCheck.code = 2 ∧
    SeqState.appCmdPrefixSent.code = 3 ∧ SeqState.operatingConditionPoll.code = 4 ∧ SeqState.readOcr.code = 5 ∧
    SeqState.ready.code = 6 ∧ SeqState.xferReadBlock.code = 7 ∧ SeqState.xferWriteBlock.code = 8 ∧
    SeqState.xferReadCsd.code = 9) ∧
  (ErrCode.none.code = 0 ∧ ErrCode.busError.code = 1 ∧ ErrCode.deviceNotResponding.code = 2 ∧
    ErrCode.initializationFailed.code = 3 ∧ ErrCode.writeRejected.code = 4 ∧ ErrCode.requestRefused.code = 5) ∧
  (ErrCause.none.code = 0 ∧ ErrCause.innerBusError.code = 1 ∧ ErrCause.innerDeviceNotResponding.code = 2 ∧
    ErrCause.innerUnexpectedResponse.code = 3 ∧ ErrCause.crcError.code = 1 ∧ ErrCause.writeError.code = 2 ∧
    ErrCause.otherStatus.code = 15 ∧ ErrCause.reservedOp.code = 1 ∧ ErrCause.notInitialized.code = 2 ∧
    ErrCause.alreadyInitialized.code = 3) ∧
  (ErrSite.none.code = 0 ∧ ErrSite.r1Poll.code = 1 ∧ ErrSite.tokenPoll.code = 2 ∧ ErrSite.drespPoll.code = 3 ∧
    ErrSite.busyPoll.code = 4 ∧ ErrSite.opcondRetry.code = 5)

/-- A well-formed host read with BUSY = 0 (R211, R214): the value R110 lays out, and no side effect. The host's own
position and its record of replies are the host's. -/
def Obligations.IdleReadsReturnTheRegisters : Prop :=
  ∀ (s : State) (w : Width) (off : Offset),
    s.refusalMark = false → whoMoves s = .host → s.program[s.hpc]? = some (.rd w off) →
    s.busy = false →
    let n := off.toNat
    let answers (v : Word) : Prop := step s = .next { s with
      turns := s.turns.tail, hpc := s.hpc + 1, replies := s.replies ++ [{ off := off, value := v }] }
    (w = .word → n = 0x000 → answers 0) ∧
    (w = .word → n = 0x004 → answers s.addr) ∧
    (w = .word → n = 0x008 → answers (statusWord s)) ∧
    (w = .word → n = 0x00C → answers (s.r1.setWidth 32)) ∧
    (w = .word → n = 0x010 → answers s.r7) ∧
    (w = .word → n = 0x014 → answers s.ocr) ∧
    (w = .word → n = 0x018 → answers (s.dresp.setWidth 32)) ∧
    (w = .word → n = 0x01C → answers (s.csize.setWidth 32)) ∧
    (w = .word → n = 0x020 → answers s.capKib) ∧
    (w = .word → n = 0x024 → answers s.opcondAttempts) ∧
    ((0x028 ≤ n ∧ n < 0x100) ∨ (0x110 ≤ n ∧ n < 0x200) → (w = .byte ∨ n % 4 = 0) → answers 0) ∧
    (∀ b, w = .byte → (0x100 ≤ n ∧ n < 0x110) ∨ 0x200 ≤ n → s.byteAt n = some b → answers (b.setWidth 32)) ∧
    (w = .byte → (0x100 ≤ n ∧ n < 0x110) ∨ 0x200 ≤ n → s.byteAt n = none →
      ∃ b : Byte, answers (b.setWidth 32))

/-- While BUSY = 1 a STATUS read is exact, and no well-formed read changes the block (R211, R215). -/
def Obligations.BusyReadsChangeNothing : Prop :=
  ∀ s : State, s.refusalMark = false → whoMoves s = .host → s.busy = true →
    (s.program[s.hpc]? = some (.rd .word 0x008) →
      step s = .next { s with
        turns := s.turns.tail, hpc := s.hpc + 1
        replies := s.replies ++ [{ off := 0x008, value := statusWord s }] }) ∧
    (∀ w off, s.program[s.hpc]? = some (.rd w off) → wellFormedAccess w off = true → off ≠ 0x008 →
      ∃ v, step s = .next { s with
        turns := s.turns.tail, hpc := s.hpc + 1, draws := s.draws + 1
        replies := s.replies ++ [{ off := off, value := v }] })

/-- A host access that is not well-formed (R210, R213, R622): it changes nothing but HOST_VIOLATION, and sets the
model's refusal mark (log 7). -/
def Obligations.IllFormedAccessOnlyMarks : Prop :=
  ∀ (s : State) (w : Width) (off : Offset) (n : Nat), s.refusalMark = false → whoMoves s = .host → n = off.toNat →
    (n < 0x028 ∧ (w = .byte ∨ n % 4 ≠ 0)) ∨ (0x100 ≤ n ∧ n < 0x110 ∧ w = .word) ∨ (0x200 ≤ n ∧ w = .word) ∨
      (((0x028 ≤ n ∧ n < 0x100) ∨ (0x110 ≤ n ∧ n < 0x200)) ∧ w = .word ∧ n % 4 ≠ 0) →
    (∀ v, s.program[s.hpc]? = some (.wr w off v) →
      step s = .next { s with
        turns := s.turns.tail, hpc := s.hpc + 1, hostViolation := true, refusalMark := true,
        draws := s.draws + 1 }) ∧
    (s.program[s.hpc]? = some (.rd w off) →
      ∃ v, step s = .next { s with
        turns := s.turns.tail, hpc := s.hpc + 1, hostViolation := true, refusalMark := true,
        draws := s.draws + 1
        replies := s.replies ++ [{ off := off, value := v }] })

/-- A well-formed host write with BUSY = 0 (R212, R214): REQ presents the request of the value, ADDR takes the word, a
BUF byte its value with BUF_VALID cleared and every other byte kept, and every other offset ignores it. -/
def Obligations.IdleWritesTakeEffect : Prop :=
  ∀ (s : State) (w : Width) (off : Offset) (v : Word), s.refusalMark = false → whoMoves s = .host →
    s.program[s.hpc]? = some (.wr w off v) → s.busy = false →
    let n := off.toNat
    let moved : State := { s with turns := s.turns.tail, hpc := s.hpc + 1 }
    (w = .word → n = 0x000 → step s = runRequest v moved) ∧
    (w = .word → n = 0x004 → step s = .next { moved with addr := v }) ∧
    (w = .byte → 0x200 ≤ n → ∃ m, step s = .next { moved with mem := m, bufValid := false } ∧
      m.read n = some (v.extractLsb' 0 8) ∧ ∀ a, a ≠ n → m.read a = s.mem.read a) ∧
    (w = .word → n < 0x028 → n % 4 = 0 → n ≠ 0x000 → n ≠ 0x004 → step s = .next moved) ∧
    (w = .byte → 0x100 ≤ n → n < 0x110 → step s = .next moved) ∧
    ((0x028 ≤ n ∧ n < 0x100) ∨ (0x110 ≤ n ∧ n < 0x200) → (w = .byte ∨ n % 4 = 0) → step s = .next moved)

/-- A host write to any offset while BUSY = 1 (R215, R622): nothing changes but HOST_VIOLATION, and the model's refusal
mark is set (log 7). -/
def Obligations.BusyWritesOnlyMark : Prop :=
  ∀ (s : State) (w : Width) (off : Offset) (v : Word), s.refusalMark = false → whoMoves s = .host →
    s.program[s.hpc]? = some (.wr w off v) → s.busy = true →
    step s = .next { s with
      turns := s.turns.tail, hpc := s.hpc + 1, hostViolation := true, refusalMark := true, draws := s.draws + 1 }

/-- WAIT_IDLE, BERR, B and HALT (R325): each reads STATUS or nothing, and goes on where the value says. -/
def Obligations.HostControlFlowFollowsStatus : Prop :=
  ∀ s : State, s.refusalMark = false → whoMoves s = .host →
    let reply : Reply := { off := 0x008, value := statusWord s }
    (s.program[s.hpc]? = some .waitIdle →
      step s = .next { s with
        turns := s.turns.tail, replies := s.replies ++ [reply]
        hpc := if s.busy then s.hpc else s.hpc + 1 }) ∧
    (∀ l, s.program[s.hpc]? = some (.berr l) →
      step s = .next { s with
        turns := s.turns.tail, replies := s.replies ++ [reply]
        hpc := if s.err = .none then s.hpc + 1 else l }) ∧
    (∀ l, s.program[s.hpc]? = some (.branch l) →
      step s = .next { s with turns := s.turns.tail, hpc := l }) ∧
    (s.program[s.hpc]? = some .halt ∨ s.program[s.hpc]? = none →
      step s = .next { s with turns := s.turns.tail })

/-! ### Rules of the whole machine -/

/-- Reset (R135, R701), from any state, BUSY = 1 and HOST_VIOLATION = 1 included: every value the spec states; an RST
marker and no CS or CLK event; no buffer byte holds a value; the card side is not reached (R702). The model's refusal
mark is no state of the block and stays, so a marked run is still refused after it (R622; log 7). -/
def Obligations.PlatformResetFromAnyState : Prop :=
  ∀ s : State, whoMoves s = .platformReset →
    ∃ t, advance s = .next t ∧ (s.refusalMark = false → step s = .next t) ∧ t.refusalMark = s.refusalMark ∧
      t.trace = s.trace ++ [.rst] ∧ t.csN = true ∧ t.clkSel = .slow ∧
      t.busy = false ∧ t.ready = false ∧ t.bufValid = false ∧ t.csdValid = false ∧ t.capValid = false ∧
      t.hostViolation = false ∧ t.err.code = 0 ∧ t.errCause.code = 0 ∧ t.errSite.code = 0 ∧ t.errState.code = 0 ∧
      t.seqState.code = 0 ∧ t.phase = .idle ∧ (∀ a, t.byteAt a = none) ∧ t.cfg = s.cfg ∧ t.card = s.card ∧
      statusWord t = 0

/-- READY is 0 after reset, becomes 1 in the last step of every successful INIT and in no other step, and only reset
clears it (R113); the last step of an INIT that raises the clock, whole (R479). -/
def Obligations.ReadyComesFromInitOnly : Prop :=
  State.reset.ready = false ∧ ∀ s t : State, Inv s → step s = .next t →
    (s.ready = false → t.ready = true →
      whoMoves s = .controller ∧ s.opLat = opInit ∧ s.seqState = .readOcr ∧ t.busy = false ∧ t.phase = .idle ∧
      t.seqState = .ready ∧ t.err = .none ∧ t.csN = true) ∧
    (s.ready = true → t.ready = false → whoMoves s = .platformReset) ∧
    (whoMoves s = .controller → s.opLat = 0x01 → s.busy = true → t.busy = false → t.err = .none →
      t.ready = true ∧ t.seqState = .ready) ∧
    (whoMoves s = .controller → s.phase = .clkFast →
      t = { s with
        turns := s.turns.tail, trace := s.trace ++ [.clk .fast], clkSel := .fast, draws := s.draws + 1
        ready := true, seqState := .ready, busy := false, phase := .idle })

/-- HOST_VIOLATION is sticky: only the host sets it, only reset clears it (R121, R704), whatever the run has done
before (R622). -/
def Obligations.HostViolationIsSticky : Prop :=
  ∀ s t : State, advance s = .next t →
    (s.hostViolation = true → t.hostViolation = false → whoMoves s = .platformReset) ∧
    (s.hostViolation = false → t.hostViolation = true → whoMoves s = .host)

/-- BUSY is set by an accepting step and cleared by the last step of its request; while it is 1 the host changes
nothing of the block but HOST_VIOLATION (R114). -/
def Obligations.BusyBelongsToTheController : Prop :=
  ∀ s t : State, Inv s → step s = .next t →
    (s.busy = false → t.busy = true → whoMoves s = .host ∧ t.err = .none ∧
      ∃ v i, s.program[s.hpc]? = some (.wr .word 0x000 v) ∧ decodeRequest v = .ok i) ∧
    (s.busy = true → t.busy = false → whoMoves s ≠ .host) ∧
    (s.busy = true → whoMoves s = .host →
      t = { s with hostViolation := t.hostViolation, refusalMark := t.refusalMark, draws := t.draws, hpc := t.hpc,
                   turns := t.turns, replies := t.replies })

/-- Which steps may change each result register (R104 to R109); in which of them R1 is written is log 13, and that an
attempt is counted in the prefix's last step is log 12. The register OPCOND_ATTEMPTS changes with the count `n` alone and
shows its low 32 bits (R133; log 4), and while INIT runs `n` is within R477's bound. -/
def Obligations.ResultRegistersHaveTheirWriters : Prop :=
  (∀ s t : State, step s = .next t → whoMoves s ≠ .platformReset →
    (t.r1 ≠ s.r1 → whoMoves s = .controller ∧
      ((∃ c k, s.phase = .pollR1 c k ∧ (c = .cmd8 ∨ c = .cmd58)) ∨
       (∃ c r, (c = .cmd0 ∨ c = .cmd55 ∨ c = .acmd41) ∧
          (s.phase = .deselect c r ∨ ∃ k, s.phase = .postDummy c r k)))) ∧
    (t.r7 ≠ s.r7 → whoMoves s = .controller ∧ ∃ j v, s.phase = .readFour .cmd8 j v) ∧
    (t.ocr ≠ s.ocr → whoMoves s = .controller ∧ ∃ j v, s.phase = .readFour .cmd58 j v) ∧
    (t.dresp ≠ s.dresp → whoMoves s = .controller ∧ ∃ k, s.phase = .pollDresp k) ∧
    (t.csize ≠ s.csize ∨ t.capKib ≠ s.capKib → whoMoves s = .controller ∧ s.opLat = opGetCapacity ∧
      t.busy = false ∧ ∃ r, s.phase = .deselect .cmd9 r ∨ ∃ k, s.phase = .postDummy .cmd9 r k) ∧
    (t.attempts ≠ s.attempts →
      (whoMoves s = .controller ∧ t.attempts = s.attempts + 1 ∧
        ∃ r, s.phase = .deselect .cmd55 r ∨ ∃ k, s.phase = .postDummy .cmd55 r k) ∨
      (whoMoves s = .host ∧ t.attempts = 0 ∧ t.seqState = .reset)) ∧
    (t.opcondAttempts ≠ s.opcondAttempts → t.attempts ≠ s.attempts) ∧
    (t.addr ≠ s.addr → whoMoves s = .host ∧ s.busy = false ∧
      s.program[s.hpc]? = some (.wr .word 0x004 t.addr))) ∧
  (∀ s : State, s.attempts < 2 ^ 32 → s.opcondAttempts.toNat = s.attempts) ∧
  (∀ s : State, Inv s → s.opLat = 0x01 → s.busy = true →
    s.attempts ≤ s.cfg.opcondRetryLimit ∧ (s.seqState = .operatingConditionPoll → 1 ≤ s.attempts))

/-- Which steps may change a byte of BUF or CSD (R201, R202): the data phase that reads it, the host's own write to
BUF, the end of a failed request, and reset. -/
def Obligations.BufferBytesHaveTheirWriters : Prop :=
  ∀ (s t : State) (a : Nat), Inv s → step s = .next t → t.byteAt a ≠ s.byteAt a →
    whoMoves s = .platformReset ∨
    (whoMoves s = .host ∧ s.busy = false ∧ 0x200 ≤ a ∧ t.bufValid = false ∧
      ∃ off v, off.toNat = a ∧ s.program[s.hpc]? = some (.wr .byte off v)) ∨
    (whoMoves s = .controller ∧ ∃ c i b, s.phase = .readData c i ∧ a = dataBase c + i ∧
      cardReply s = some b ∧ t.byteAt a = some b) ∨
    (whoMoves s = .controller ∧ t.busy = false ∧ t.err ≠ .none ∧ t.byteAt a = none)

/-- The reset state meets the invariants (R135). -/
def Obligations.ResetMeetsTheInvariants : Prop :=
  Inv State.reset ∧ ResultsOk State.reset ∧ TraceOk State.reset

/-- Every step keeps the invariant of the control state: the phase, STATE, READY, `op_lat`, `cs_n`, the clock, the
counters' ranges, the ERR fields' table, and the buffers' form agree (R130 to R133, R436, R601 to R603). -/
def Obligations.EveryStepKeepsTheInvariant : Prop :=
  ∀ s t : State, Inv s → step s = .next t → Inv t

/-- Every step keeps what the valid flags promise (R115 to R117, R723). -/
def Obligations.EveryStepKeepsTheResults : Prop :=
  ∀ s t : State, Inv s → ResultsOk s → step s = .next t → ResultsOk t

/-- Every step keeps the outputs as the trace says, and `CS(0)` is recorded only with the card deselected
(R102, R103, R436). -/
def Obligations.EveryStepKeepsTheTrace : Prop :=
  ∀ s t : State, Inv s → TraceOk s → step s = .next t → TraceOk t

/-- From a state that meets the invariant the machine never stops before the host breaks the rules of its port: no
fault, no refusal (R614, R616). Beyond a host violation the run is refused (R622; log 7). -/
def Obligations.GoodStatesNeverStop : Prop :=
  ∀ s : State, Inv s → s.refusalMark = false → ∃ t, step s = .next t

/-- Which steps may change BUF_VALID, CSD_VALID, CAP_VALID and the four ERR fields (R115 to R118, R120); reset, which
clears them all, is PlatformResetFromAnyState's. -/
def Obligations.StatusFlagsHaveTheirWriters : Prop :=
  ∀ s t : State, Inv s → step s = .next t → whoMoves s ≠ .platformReset →
    let accepted (i : Instr) : Prop := whoMoves s = .host ∧ s.busy = false ∧ t.busy = true ∧
      ∃ v, s.program[s.hpc]? = some (.wr .word 0x000 v) ∧ decodeRequest v = .ok i
    let succeeded (op : Byte) : Prop := whoMoves s = .controller ∧ s.opLat = op ∧ s.busy = true ∧ t.busy = false ∧
      t.err = .none
    (t.bufValid ≠ s.bufValid → (t.bufValid = true ∧ succeeded 0x02) ∨
      (t.bufValid = false ∧ (accepted .readBlock ∨ (whoMoves s = .host ∧ s.busy = false ∧
        ∃ off v, s.program[s.hpc]? = some (.wr .byte off v) ∧ 0x200 ≤ off.toNat)))) ∧
    (t.csdValid ≠ s.csdValid → (t.csdValid = true ∧ (succeeded 0x04 ∨ succeeded 0x05)) ∨
      (t.csdValid = false ∧ (accepted .readCsd ∨ accepted .getCapacity))) ∧
    (t.capValid ≠ s.capValid → (t.capValid = true ∧ succeeded 0x05) ∨ (t.capValid = false ∧ accepted .getCapacity)) ∧
    (t.err ≠ s.err ∨ t.errCause ≠ s.errCause ∨ t.errSite ≠ s.errSite ∨ t.errState ≠ s.errState →
      (whoMoves s = .host ∧ s.busy = false ∧ (∃ v, s.program[s.hpc]? = some (.wr .word 0x000 v)) ∧
        ((t.busy = true ∧ t.err = .none ∧ t.errCause = .none ∧ t.errSite = .none ∧ t.errState.code = 0) ∨
         (t.busy = false ∧ t.err = .requestRefused ∧ t.errSite = .none ∧ t.errState = s.seqState))) ∨
      (whoMoves s = .controller ∧ s.busy = true ∧ s.err = .none ∧ t.err ≠ .none ∧ t.errState = s.seqState ∧
        (t.phase = .errorExit ∨ t.busy = false)))

/-- The sticky refusal mark of R622: a host violation sets it beside HOST_VIOLATION, nothing else does (a well-formed
read while BUSY = 1 is no violation: log 6), nothing clears it, reset included, and a run that carries it has no
meaning: every step of it is refused. That the refusal starts with the step after the violation is log 7. -/
def Obligations.HostViolationEndsTheRun : Prop :=
  (∀ s : State, s.refusalMark = true → step s = .refused .hostViolation) ∧
  (∀ s : State, s.refusalMark = false → step s = advance s) ∧
  (∀ s t : State, advance s = .next t → s.refusalMark = true → t.refusalMark = true) ∧
  (∀ s t : State, step s = .next t → t.refusalMark = true →
    whoMoves s = .host ∧ t.hostViolation = true ∧
      ((∃ w off v, s.program[s.hpc]? = some (.wr w off v) ∧ (s.busy = true ∨ wellFormedAccess w off = false)) ∨
       (∃ w off, s.program[s.hpc]? = some (.rd w off) ∧ wellFormedAccess w off = false))) ∧
  (∀ (s : State) (w : Width) (off : Offset), s.refusalMark = false → whoMoves s = .host →
    ((∃ v, s.program[s.hpc]? = some (.wr w off v)) ∧ (s.busy = true ∨ wellFormedAccess w off = false)) ∨
      (s.program[s.hpc]? = some (.rd w off) ∧ wellFormedAccess w off = false) →
    ∃ t, step s = .next t ∧ t.hostViolation = true ∧ t.refusalMark = true)

/-- A host program assembles as R325 writes it: each line to its accesses, in order; a label names the position of the
line after it, and every branch stays inside the program. That the first of several lines with one label counts, and
that a missing label is the end of the program, is log 15. -/
def Obligations.HostProgramsAssembleAsTheirLines : Prop :=
  (∀ tgt : Nat → Nat,
    (∀ off, expandLine tgt (.rd32 off) = [.rd .word off] ∧ expandLine tgt (.rd8 off) = [.rd .byte off]) ∧
    (∀ off v, expandLine tgt (.wr32 off v) = [.wr .word off v]) ∧
    (∀ off v, expandLine tgt (.wr8 off v) = [.wr .byte off (v.setWidth 32)]) ∧
    expandLine tgt .waitIdle = [.waitIdle] ∧ expandLine tgt .halt = [.halt] ∧
    expandLine tgt .init = [.wr .word 0x000 0x01, .waitIdle] ∧
    (∀ a, expandLine tgt (.readBlock a) = [.wr .word 0x004 a, .wr .word 0x000 0x02, .waitIdle]) ∧
    (∀ a, expandLine tgt (.writeBlock a) = [.wr .word 0x004 a, .wr .word 0x000 0x03, .waitIdle]) ∧
    expandLine tgt .readCsd = [.wr .word 0x000 0x04, .waitIdle] ∧
    expandLine tgt .getCapacity = [.wr .word 0x000 0x05, .waitIdle] ∧
    (∀ v, (expandLine tgt (.fill v)).length = 512 ∧ ∀ j, j < 512 →
      (expandLine tgt (.fill v))[j]? = some (.wr .byte (BitVec.ofNat 10 (0x200 + j)) (v.setWidth 32))) ∧
    (∀ l, expandLine tgt (.berr l) = [.berr (tgt l)] ∧ expandLine tgt (.branch l) = [.branch (tgt l)] ∧
      expandLine tgt (.label l) = [])) ∧
  (∀ (pre post : List SourceLine) (l : Nat), .label l ∉ pre →
    let p := pre ++ [.label l] ++ post
    let tgt (n : Nat) : Nat := labelPosition n 0 p
    assemble p = pre.flatMap (expandLine tgt) ++ post.flatMap (expandLine tgt) ∧
      tgt l = (pre.flatMap (expandLine tgt)).length) ∧
  (∀ (p : List SourceLine) (l : Nat), .label l ∉ p → labelPosition l 0 p = (assemble p).length) ∧
  (∀ p : List SourceLine, hostProgramWf (assemble p) = true)

/-- The configuration is no state that changes (R101): no move of any agent writes it. On this hardware it is R6's
defaults. -/
def Obligations.ConfigurationNeverChanges : Prop :=
  (∀ s t : State, advance s = .next t → t.cfg = s.cfg) ∧
  (let p := State.reset.cfg
   p.wf = true ∧ p.nPowerupDummy = 10 ∧ p.nPreDummy = 1 ∧ p.nPostDummy = 1 ∧
   (∀ i, p.frameCrc.lookup i = if i = 0 then 0x95 else if i = 8 then 0x87 else 0x01) ∧
   p.writeCrc0 = 0xFF ∧ p.writeCrc1 = 0xFF ∧ p.r1PollLimit = 8 ∧ p.opcondPolarity = .protocol ∧
   p.strictInit = false ∧ p.nReadTrailer = 0 ∧ p.writeBusyWait = true ∧ p.raiseClock = true)
end

