-- ==== Sys2Proof/Laws/Encoding.lean ====
section
/-! SUPPORT. The bits and fields of an assembled frame, and what the decoder reads from it (spec/30_encoding.md
R301). -/

namespace Sys2Proof

theorem zeroForty_bit (j : Nat) : (0x40#8).getLsbD j = (j == 6) := by
  by_cases h : j < 8
  · have : j = 0 ∨ j = 1 ∨ j = 2 ∨ j = 3 ∨ j = 4 ∨ j = 5 ∨ j = 6 ∨ j = 7 := by omega
    rcases this with rfl | rfl | rfl | rfl | rfl | rfl | rfl | rfl <;> rfl
  · have h' : j ≠ 6 := by omega
    simp [BitVec.getLsbD_of_ge _ _ (Nat.le_of_not_lt h), h']

/-- Bit `i` of F (R301): the CRC byte, the argument, the index, the transmission bit. -/
theorem assembleFrame_bit (crc : FrameCrc) (idx : BitVec 6) (arg : Word) (i : Nat) :
    (assembleFrame crc idx arg).getLsbD i =
      if i < 8 then (crc.lookup idx).getLsbD i
      else if i < 40 then arg.getLsbD (i - 8)
      else if i < 46 then idx.getLsbD (i - 40)
      else i == 46 := by
  unfold assembleFrame
  simp only [BitVec.getLsbD_or, BitVec.getLsbD_shiftLeft, BitVec.getLsbD_setWidth, zeroForty_bit]
  split
  · next h => simp [h, show i < 48 by omega, show i < 40 by omega]
  · next h8 =>
    have hc : (crc.lookup idx).getLsbD i = false := BitVec.getLsbD_of_ge _ _ (by omega)
    split
    · next h => simp [h, h8, hc, show i < 48 by omega, show i - 8 < 48 by omega]
    · next h40 =>
      have ha : arg.getLsbD (i - 8) = false := BitVec.getLsbD_of_ge _ _ (by omega)
      split
      · next h =>
        simp [h40, h8, hc, ha, show i < 48 by omega, show i - 40 < 48 by omega, show i - 40 < 8 by omega,
          show i - 40 ≠ 6 by omega]
      · next h46 =>
        have hi : idx.getLsbD (i - 40) = false := BitVec.getLsbD_of_ge _ _ (by omega)
        by_cases h : i = 46
        · subst h; simp
        · have h₁ : (i - 40 == 6) = false := by simp; omega
          have h₂ : (i == 46) = false := by simp [h]
          simp [h40, h8, hc, ha, hi, h₁, h₂]

theorem assembleFrame_start (crc : FrameCrc) (idx : BitVec 6) (arg : Word) :
    (assembleFrame crc idx arg).extractLsb' 46 2 = 0b01#2 := by
  apply BitVec.eq_of_getLsbD_eq
  intro i hi
  rw [BitVec.getLsbD_extractLsb', assembleFrame_bit]
  have : i = 0 ∨ i = 1 := by omega
  rcases this with rfl | rfl <;> simp

theorem assembleFrame_index (crc : FrameCrc) (idx : BitVec 6) (arg : Word) :
    (assembleFrame crc idx arg).extractLsb' 40 6 = idx := by
  apply BitVec.eq_of_getLsbD_eq
  intro i hi
  rw [BitVec.getLsbD_extractLsb', assembleFrame_bit]
  simp [hi, show 40 + i < 46 by omega, show ¬ (40 + i < 8) by omega]

theorem assembleFrame_argument (crc : FrameCrc) (idx : BitVec 6) (arg : Word) :
    (assembleFrame crc idx arg).extractLsb' 8 32 = arg := by
  apply BitVec.eq_of_getLsbD_eq
  intro i hi
  rw [BitVec.getLsbD_extractLsb', assembleFrame_bit]
  simp [hi, show 8 + i < 40 by omega]

theorem assembleFrame_crc (crc : FrameCrc) (idx : BitVec 6) (arg : Word) :
    (assembleFrame crc idx arg).extractLsb' 0 8 = crc.lookup idx := by
  apply BitVec.eq_of_getLsbD_eq
  intro i hi
  rw [BitVec.getLsbD_extractLsb', assembleFrame_bit]
  simp [hi]

/-- Six bytes of a frame put together again are the frame. -/
theorem frameOfBytes_frameByte (f : FrameWord) :
    frameOfBytes (frameByte f 0) (frameByte f 1) (frameByte f 2) (frameByte f 3) (frameByte f 4) (frameByte f 5)
      = f := by
  apply BitVec.eq_of_getLsbD_eq
  intro i hi
  simp only [frameOfBytes, frameByte, BitVec.getLsbD_or, BitVec.getLsbD_shiftLeft, BitVec.getLsbD_setWidth,
    BitVec.getLsbD_extractLsb']
  rcases Nat.lt_or_ge i 8 with h | h
  · simp [h, hi, show i < 40 by omega, show i < 32 by omega, show i < 24 by omega, show i < 16 by omega]
  rcases Nat.lt_or_ge i 16 with h' | h'
  · simp [h', hi, show i < 40 by omega, show i < 32 by omega, show i < 24 by omega, show ¬ i < 8 by omega,
      show i - 8 < 48 by omega, show i - 8 < 8 by omega, show 8 + (i - 8) = i by omega]
  rcases Nat.lt_or_ge i 24 with h' | h'
  · simp [h', hi, show i < 40 by omega, show i < 32 by omega, show ¬ i < 16 by omega, show ¬ i < 8 by omega,
      show i - 8 < 48 by omega, show ¬ i - 8 < 8 by omega, show i - 16 < 48 by omega, show i - 16 < 8 by omega,
      show 16 + (i - 16) = i by omega]
  rcases Nat.lt_or_ge i 32 with h' | h'
  · simp [h', hi, show i < 40 by omega, show ¬ i < 24 by omega, show ¬ i < 16 by omega, show ¬ i < 8 by omega,
      show ¬ i - 8 < 8 by omega, show ¬ i - 16 < 8 by omega, show i - 24 < 48 by omega, show i - 24 < 8 by omega,
      show 24 + (i - 24) = i by omega]
  rcases Nat.lt_or_ge i 40 with h' | h'
  · simp [h', hi, show ¬ i < 32 by omega, show ¬ i < 24 by omega, show ¬ i < 16 by omega, show ¬ i < 8 by omega,
      show ¬ i - 8 < 8 by omega, show ¬ i - 16 < 8 by omega, show ¬ i - 24 < 8 by omega,
      show i - 32 < 48 by omega, show i - 32 < 8 by omega, show 32 + (i - 32) = i by omega]
  · simp [hi, show ¬ i < 40 by omega, show ¬ i < 32 by omega, show ¬ i < 24 by omega, show ¬ i < 16 by omega,
      show ¬ i < 8 by omega, show ¬ i - 8 < 8 by omega, show ¬ i - 16 < 8 by omega, show ¬ i - 24 < 8 by omega,
      show ¬ i - 32 < 8 by omega, show i - 40 < 48 by omega, show i - 40 < 8 by omega, show 40 + (i - 40) = i by omega]

/-- The assembled frame of a command is read as that command with its argument (R305). -/
theorem decodeFrame_assembleFrame (crc : FrameCrc) (c : Cmd) (a : Word) :
    decodeFrame (assembleFrame crc c.index (c.argument a)) = .ok (c.instr a) := by
  unfold decodeFrame
  simp only [assembleFrame_start, assembleFrame_index, assembleFrame_argument]
  cases c <;> simp [Cmd.index, Cmd.argument, Cmd.instr, fixedArgument]

end Sys2Proof
end

