-- ==== Sys2Proof/Laws/HostProgram.lean ====
section
/-! SUPPORT. The assembly of host programs (spec/30_encoding.md R325): how long a program is, and where a label stands. -/

namespace Sys2Proof.Machine

/-- A line stands for as many accesses whatever its labels resolve to. -/
theorem expandLine_length (t u : Nat → Nat) (x : SourceLine) : (expandLine t x).length = (expandLine u x).length := by
  cases x <;> simp [expandLine]

/-- A program is as long whatever its labels resolve to. -/
theorem flatMap_expandLine_length (t u : Nat → Nat) (p : List SourceLine) :
    (p.flatMap (expandLine t)).length = (p.flatMap (expandLine u)).length := by
  induction p with
  | nil => rfl
  | cons x p ih => simp only [List.flatMap_cons, List.length_append, ih, expandLine_length t u x]

/-- A label stands inside the program, or right after its last line. -/
theorem labelPosition_le (l : Nat) (p : List SourceLine) (k : Nat) :
    labelPosition l k p ≤ k + (p.flatMap (expandLine id)).length := by
  induction p generalizing k with
  | nil => exact Nat.le_refl _
  | cons x p ih =>
    cases x <;> simp only [labelPosition, List.flatMap_cons, List.length_append]
    case label n =>
      split
      · exact Nat.le_add_right _ _
      · simpa [expandLine] using ih k
    all_goals exact le_trans (ih _) (le_of_eq (Nat.add_assoc _ _ _))

/-- The lines before a label's first line are passed over. -/
theorem labelPosition_append (l : Nat) (p q : List SourceLine) (k : Nat) (h : .label l ∉ p) :
    labelPosition l k (p ++ q) = labelPosition l (k + (p.flatMap (expandLine id)).length) q := by
  induction p generalizing k with
  | nil => rfl
  | cons x p ih =>
    simp only [List.mem_cons, not_or] at h
    cases x <;> simp only [List.cons_append, labelPosition, List.flatMap_cons, List.length_append]
    case label n =>
      have hn : n ≠ l := fun e => h.1 (by rw [e])
      simp [hn, ih _ h.2, expandLine]
    all_goals rw [ih _ h.2, Nat.add_assoc]

end Sys2Proof.Machine
end

