-- ==== Sys2Proof/Laws/State.lean ====
section
/-! SUPPORT. What each update of the state does to each of its fields: true by rfl, tagged simp, so that no later proof
unfolds a record update. -/

namespace Sys2Proof.Machine

/-! ### record -/

@[simp] theorem record_cfg (e : BusEvent) (s : State) : (record e s).cfg = s.cfg := rfl
@[simp] theorem record_csN (e : BusEvent) (s : State) : (record e s).csN = s.csN := rfl
@[simp] theorem record_clkSel (e : BusEvent) (s : State) : (record e s).clkSel = s.clkSel := rfl
@[simp] theorem record_r1 (e : BusEvent) (s : State) : (record e s).r1 = s.r1 := rfl
@[simp] theorem record_r7 (e : BusEvent) (s : State) : (record e s).r7 = s.r7 := rfl
@[simp] theorem record_ocr (e : BusEvent) (s : State) : (record e s).ocr = s.ocr := rfl
@[simp] theorem record_dresp (e : BusEvent) (s : State) : (record e s).dresp = s.dresp := rfl
@[simp] theorem record_csize (e : BusEvent) (s : State) : (record e s).csize = s.csize := rfl
@[simp] theorem record_capKib (e : BusEvent) (s : State) : (record e s).capKib = s.capKib := rfl
@[simp] theorem record_attempts (e : BusEvent) (s : State) : (record e s).attempts = s.attempts := rfl
@[simp] theorem record_addr (e : BusEvent) (s : State) : (record e s).addr = s.addr := rfl
@[simp] theorem record_busy (e : BusEvent) (s : State) : (record e s).busy = s.busy := rfl
@[simp] theorem record_ready (e : BusEvent) (s : State) : (record e s).ready = s.ready := rfl
@[simp] theorem record_bufValid (e : BusEvent) (s : State) : (record e s).bufValid = s.bufValid := rfl
@[simp] theorem record_csdValid (e : BusEvent) (s : State) : (record e s).csdValid = s.csdValid := rfl
@[simp] theorem record_capValid (e : BusEvent) (s : State) : (record e s).capValid = s.capValid := rfl
@[simp] theorem record_hostViolation (e : BusEvent) (s : State) : (record e s).hostViolation = s.hostViolation := rfl
@[simp] theorem record_refusalMark (e : BusEvent) (s : State) : (record e s).refusalMark = s.refusalMark := rfl
@[simp] theorem record_err (e : BusEvent) (s : State) : (record e s).err = s.err := rfl
@[simp] theorem record_errCause (e : BusEvent) (s : State) : (record e s).errCause = s.errCause := rfl
@[simp] theorem record_errSite (e : BusEvent) (s : State) : (record e s).errSite = s.errSite := rfl
@[simp] theorem record_errState (e : BusEvent) (s : State) : (record e s).errState = s.errState := rfl
@[simp] theorem record_seqState (e : BusEvent) (s : State) : (record e s).seqState = s.seqState := rfl
@[simp] theorem record_phase (e : BusEvent) (s : State) : (record e s).phase = s.phase := rfl
@[simp] theorem record_opLat (e : BusEvent) (s : State) : (record e s).opLat = s.opLat := rfl
@[simp] theorem record_aLat (e : BusEvent) (s : State) : (record e s).aLat = s.aLat := rfl
@[simp] theorem record_mem (e : BusEvent) (s : State) : (record e s).mem = s.mem := rfl
@[simp] theorem record_trace (e : BusEvent) (s : State) : (record e s).trace = s.trace ++ [e] := rfl
@[simp] theorem record_card (e : BusEvent) (s : State) : (record e s).card = s.card := rfl
@[simp] theorem record_draws (e : BusEvent) (s : State) : (record e s).draws = s.draws + 1 := rfl
@[simp] theorem record_program (e : BusEvent) (s : State) : (record e s).program = s.program := rfl
@[simp] theorem record_hpc (e : BusEvent) (s : State) : (record e s).hpc = s.hpc := rfl
@[simp] theorem record_turns (e : BusEvent) (s : State) : (record e s).turns = s.turns := rfl
@[simp] theorem record_replies (e : BusEvent) (s : State) : (record e s).replies = s.replies := rfl

/-! ### csSet -/

@[simp] theorem csSet_cfg (l : Bool) (s : State) : (csSet l s).cfg = s.cfg := rfl
@[simp] theorem csSet_csN (l : Bool) (s : State) : (csSet l s).csN = l := rfl
@[simp] theorem csSet_clkSel (l : Bool) (s : State) : (csSet l s).clkSel = s.clkSel := rfl
@[simp] theorem csSet_r1 (l : Bool) (s : State) : (csSet l s).r1 = s.r1 := rfl
@[simp] theorem csSet_r7 (l : Bool) (s : State) : (csSet l s).r7 = s.r7 := rfl
@[simp] theorem csSet_ocr (l : Bool) (s : State) : (csSet l s).ocr = s.ocr := rfl
@[simp] theorem csSet_dresp (l : Bool) (s : State) : (csSet l s).dresp = s.dresp := rfl
@[simp] theorem csSet_csize (l : Bool) (s : State) : (csSet l s).csize = s.csize := rfl
@[simp] theorem csSet_capKib (l : Bool) (s : State) : (csSet l s).capKib = s.capKib := rfl
@[simp] theorem csSet_attempts (l : Bool) (s : State) : (csSet l s).attempts = s.attempts := rfl
@[simp] theorem csSet_addr (l : Bool) (s : State) : (csSet l s).addr = s.addr := rfl
@[simp] theorem csSet_busy (l : Bool) (s : State) : (csSet l s).busy = s.busy := rfl
@[simp] theorem csSet_ready (l : Bool) (s : State) : (csSet l s).ready = s.ready := rfl
@[simp] theorem csSet_bufValid (l : Bool) (s : State) : (csSet l s).bufValid = s.bufValid := rfl
@[simp] theorem csSet_csdValid (l : Bool) (s : State) : (csSet l s).csdValid = s.csdValid := rfl
@[simp] theorem csSet_capValid (l : Bool) (s : State) : (csSet l s).capValid = s.capValid := rfl
@[simp] theorem csSet_hostViolation (l : Bool) (s : State) : (csSet l s).hostViolation = s.hostViolation := rfl
@[simp] theorem csSet_refusalMark (l : Bool) (s : State) : (csSet l s).refusalMark = s.refusalMark := rfl
@[simp] theorem csSet_err (l : Bool) (s : State) : (csSet l s).err = s.err := rfl
@[simp] theorem csSet_errCause (l : Bool) (s : State) : (csSet l s).errCause = s.errCause := rfl
@[simp] theorem csSet_errSite (l : Bool) (s : State) : (csSet l s).errSite = s.errSite := rfl
@[simp] theorem csSet_errState (l : Bool) (s : State) : (csSet l s).errState = s.errState := rfl
@[simp] theorem csSet_seqState (l : Bool) (s : State) : (csSet l s).seqState = s.seqState := rfl
@[simp] theorem csSet_phase (l : Bool) (s : State) : (csSet l s).phase = s.phase := rfl
@[simp] theorem csSet_opLat (l : Bool) (s : State) : (csSet l s).opLat = s.opLat := rfl
@[simp] theorem csSet_aLat (l : Bool) (s : State) : (csSet l s).aLat = s.aLat := rfl
@[simp] theorem csSet_mem (l : Bool) (s : State) : (csSet l s).mem = s.mem := rfl
@[simp] theorem csSet_trace (l : Bool) (s : State) : (csSet l s).trace = s.trace ++ [.cs l] := rfl
@[simp] theorem csSet_card (l : Bool) (s : State) : (csSet l s).card = s.card := rfl
@[simp] theorem csSet_draws (l : Bool) (s : State) : (csSet l s).draws = s.draws + 1 := rfl
@[simp] theorem csSet_program (l : Bool) (s : State) : (csSet l s).program = s.program := rfl
@[simp] theorem csSet_hpc (l : Bool) (s : State) : (csSet l s).hpc = s.hpc := rfl
@[simp] theorem csSet_turns (l : Bool) (s : State) : (csSet l s).turns = s.turns := rfl
@[simp] theorem csSet_replies (l : Bool) (s : State) : (csSet l s).replies = s.replies := rfl

/-! ### clkSet -/

@[simp] theorem clkSet_cfg (r : ClockRate) (s : State) : (clkSet r s).cfg = s.cfg := rfl
@[simp] theorem clkSet_csN (r : ClockRate) (s : State) : (clkSet r s).csN = s.csN := rfl
@[simp] theorem clkSet_clkSel (r : ClockRate) (s : State) : (clkSet r s).clkSel = r := rfl
@[simp] theorem clkSet_r1 (r : ClockRate) (s : State) : (clkSet r s).r1 = s.r1 := rfl
@[simp] theorem clkSet_r7 (r : ClockRate) (s : State) : (clkSet r s).r7 = s.r7 := rfl
@[simp] theorem clkSet_ocr (r : ClockRate) (s : State) : (clkSet r s).ocr = s.ocr := rfl
@[simp] theorem clkSet_dresp (r : ClockRate) (s : State) : (clkSet r s).dresp = s.dresp := rfl
@[simp] theorem clkSet_csize (r : ClockRate) (s : State) : (clkSet r s).csize = s.csize := rfl
@[simp] theorem clkSet_capKib (r : ClockRate) (s : State) : (clkSet r s).capKib = s.capKib := rfl
@[simp] theorem clkSet_attempts (r : ClockRate) (s : State) : (clkSet r s).attempts = s.attempts := rfl
@[simp] theorem clkSet_addr (r : ClockRate) (s : State) : (clkSet r s).addr = s.addr := rfl
@[simp] theorem clkSet_busy (r : ClockRate) (s : State) : (clkSet r s).busy = s.busy := rfl
@[simp] theorem clkSet_ready (r : ClockRate) (s : State) : (clkSet r s).ready = s.ready := rfl
@[simp] theorem clkSet_bufValid (r : ClockRate) (s : State) : (clkSet r s).bufValid = s.bufValid := rfl
@[simp] theorem clkSet_csdValid (r : ClockRate) (s : State) : (clkSet r s).csdValid = s.csdValid := rfl
@[simp] theorem clkSet_capValid (r : ClockRate) (s : State) : (clkSet r s).capValid = s.capValid := rfl
@[simp] theorem clkSet_hostViolation (r : ClockRate) (s : State) : (clkSet r s).hostViolation = s.hostViolation := rfl
@[simp] theorem clkSet_refusalMark (r : ClockRate) (s : State) : (clkSet r s).refusalMark = s.refusalMark := rfl
@[simp] theorem clkSet_err (r : ClockRate) (s : State) : (clkSet r s).err = s.err := rfl
@[simp] theorem clkSet_errCause (r : ClockRate) (s : State) : (clkSet r s).errCause = s.errCause := rfl
@[simp] theorem clkSet_errSite (r : ClockRate) (s : State) : (clkSet r s).errSite = s.errSite := rfl
@[simp] theorem clkSet_errState (r : ClockRate) (s : State) : (clkSet r s).errState = s.errState := rfl
@[simp] theorem clkSet_seqState (r : ClockRate) (s : State) : (clkSet r s).seqState = s.seqState := rfl
@[simp] theorem clkSet_phase (r : ClockRate) (s : State) : (clkSet r s).phase = s.phase := rfl
@[simp] theorem clkSet_opLat (r : ClockRate) (s : State) : (clkSet r s).opLat = s.opLat := rfl
@[simp] theorem clkSet_aLat (r : ClockRate) (s : State) : (clkSet r s).aLat = s.aLat := rfl
@[simp] theorem clkSet_mem (r : ClockRate) (s : State) : (clkSet r s).mem = s.mem := rfl
@[simp] theorem clkSet_trace (r : ClockRate) (s : State) : (clkSet r s).trace = s.trace ++ [.clk r] := rfl
@[simp] theorem clkSet_card (r : ClockRate) (s : State) : (clkSet r s).card = s.card := rfl
@[simp] theorem clkSet_draws (r : ClockRate) (s : State) : (clkSet r s).draws = s.draws + 1 := rfl
@[simp] theorem clkSet_program (r : ClockRate) (s : State) : (clkSet r s).program = s.program := rfl
@[simp] theorem clkSet_hpc (r : ClockRate) (s : State) : (clkSet r s).hpc = s.hpc := rfl
@[simp] theorem clkSet_turns (r : ClockRate) (s : State) : (clkSet r s).turns = s.turns := rfl
@[simp] theorem clkSet_replies (r : ClockRate) (s : State) : (clkSet r s).replies = s.replies := rfl

/-! ### exchange -/

@[simp] theorem exchange_cfg (o : Byte) (s : State) : (exchange o s).cfg = s.cfg := rfl
@[simp] theorem exchange_csN (o : Byte) (s : State) : (exchange o s).csN = s.csN := rfl
@[simp] theorem exchange_clkSel (o : Byte) (s : State) : (exchange o s).clkSel = s.clkSel := rfl
@[simp] theorem exchange_r1 (o : Byte) (s : State) : (exchange o s).r1 = s.r1 := rfl
@[simp] theorem exchange_r7 (o : Byte) (s : State) : (exchange o s).r7 = s.r7 := rfl
@[simp] theorem exchange_ocr (o : Byte) (s : State) : (exchange o s).ocr = s.ocr := rfl
@[simp] theorem exchange_dresp (o : Byte) (s : State) : (exchange o s).dresp = s.dresp := rfl
@[simp] theorem exchange_csize (o : Byte) (s : State) : (exchange o s).csize = s.csize := rfl
@[simp] theorem exchange_capKib (o : Byte) (s : State) : (exchange o s).capKib = s.capKib := rfl
@[simp] theorem exchange_attempts (o : Byte) (s : State) : (exchange o s).attempts = s.attempts := rfl
@[simp] theorem exchange_addr (o : Byte) (s : State) : (exchange o s).addr = s.addr := rfl
@[simp] theorem exchange_busy (o : Byte) (s : State) : (exchange o s).busy = s.busy := rfl
@[simp] theorem exchange_ready (o : Byte) (s : State) : (exchange o s).ready = s.ready := rfl
@[simp] theorem exchange_bufValid (o : Byte) (s : State) : (exchange o s).bufValid = s.bufValid := rfl
@[simp] theorem exchange_csdValid (o : Byte) (s : State) : (exchange o s).csdValid = s.csdValid := rfl
@[simp] theorem exchange_capValid (o : Byte) (s : State) : (exchange o s).capValid = s.capValid := rfl
@[simp] theorem exchange_hostViolation (o : Byte) (s : State) : (exchange o s).hostViolation = s.hostViolation := rfl
@[simp] theorem exchange_refusalMark (o : Byte) (s : State) : (exchange o s).refusalMark = s.refusalMark := rfl
@[simp] theorem exchange_err (o : Byte) (s : State) : (exchange o s).err = s.err := rfl
@[simp] theorem exchange_errCause (o : Byte) (s : State) : (exchange o s).errCause = s.errCause := rfl
@[simp] theorem exchange_errSite (o : Byte) (s : State) : (exchange o s).errSite = s.errSite := rfl
@[simp] theorem exchange_errState (o : Byte) (s : State) : (exchange o s).errState = s.errState := rfl
@[simp] theorem exchange_seqState (o : Byte) (s : State) : (exchange o s).seqState = s.seqState := rfl
@[simp] theorem exchange_phase (o : Byte) (s : State) : (exchange o s).phase = s.phase := rfl
@[simp] theorem exchange_opLat (o : Byte) (s : State) : (exchange o s).opLat = s.opLat := rfl
@[simp] theorem exchange_aLat (o : Byte) (s : State) : (exchange o s).aLat = s.aLat := rfl
@[simp] theorem exchange_mem (o : Byte) (s : State) : (exchange o s).mem = s.mem := rfl
@[simp] theorem exchange_trace (o : Byte) (s : State) : (exchange o s).trace = s.trace ++ [.xfer o (cardReply s)] := rfl
@[simp] theorem exchange_card (o : Byte) (s : State) : (exchange o s).card = s.card.tail := rfl
@[simp] theorem exchange_draws (o : Byte) (s : State) : (exchange o s).draws = s.draws + 1 := rfl
@[simp] theorem exchange_program (o : Byte) (s : State) : (exchange o s).program = s.program := rfl
@[simp] theorem exchange_hpc (o : Byte) (s : State) : (exchange o s).hpc = s.hpc := rfl
@[simp] theorem exchange_turns (o : Byte) (s : State) : (exchange o s).turns = s.turns := rfl
@[simp] theorem exchange_replies (o : Byte) (s : State) : (exchange o s).replies = s.replies := rfl

/-! ### writeByte -/

@[simp] theorem writeByte_cfg (s : State) (a : Nat) (b : Byte) : (s.writeByte a b).cfg = s.cfg := rfl
@[simp] theorem writeByte_csN (s : State) (a : Nat) (b : Byte) : (s.writeByte a b).csN = s.csN := rfl
@[simp] theorem writeByte_clkSel (s : State) (a : Nat) (b : Byte) : (s.writeByte a b).clkSel = s.clkSel := rfl
@[simp] theorem writeByte_r1 (s : State) (a : Nat) (b : Byte) : (s.writeByte a b).r1 = s.r1 := rfl
@[simp] theorem writeByte_r7 (s : State) (a : Nat) (b : Byte) : (s.writeByte a b).r7 = s.r7 := rfl
@[simp] theorem writeByte_ocr (s : State) (a : Nat) (b : Byte) : (s.writeByte a b).ocr = s.ocr := rfl
@[simp] theorem writeByte_dresp (s : State) (a : Nat) (b : Byte) : (s.writeByte a b).dresp = s.dresp := rfl
@[simp] theorem writeByte_csize (s : State) (a : Nat) (b : Byte) : (s.writeByte a b).csize = s.csize := rfl
@[simp] theorem writeByte_capKib (s : State) (a : Nat) (b : Byte) : (s.writeByte a b).capKib = s.capKib := rfl
@[simp] theorem writeByte_attempts (s : State) (a : Nat) (b : Byte) : (s.writeByte a b).attempts = s.attempts := rfl
@[simp] theorem writeByte_addr (s : State) (a : Nat) (b : Byte) : (s.writeByte a b).addr = s.addr := rfl
@[simp] theorem writeByte_busy (s : State) (a : Nat) (b : Byte) : (s.writeByte a b).busy = s.busy := rfl
@[simp] theorem writeByte_ready (s : State) (a : Nat) (b : Byte) : (s.writeByte a b).ready = s.ready := rfl
@[simp] theorem writeByte_bufValid (s : State) (a : Nat) (b : Byte) : (s.writeByte a b).bufValid = s.bufValid := rfl
@[simp] theorem writeByte_csdValid (s : State) (a : Nat) (b : Byte) : (s.writeByte a b).csdValid = s.csdValid := rfl
@[simp] theorem writeByte_capValid (s : State) (a : Nat) (b : Byte) : (s.writeByte a b).capValid = s.capValid := rfl
@[simp] theorem writeByte_hostViolation (s : State) (a : Nat) (b : Byte) : (s.writeByte a b).hostViolation = s.hostViolation := rfl
@[simp] theorem writeByte_refusalMark (s : State) (a : Nat) (b : Byte) : (s.writeByte a b).refusalMark = s.refusalMark := rfl
@[simp] theorem writeByte_err (s : State) (a : Nat) (b : Byte) : (s.writeByte a b).err = s.err := rfl
@[simp] theorem writeByte_errCause (s : State) (a : Nat) (b : Byte) : (s.writeByte a b).errCause = s.errCause := rfl
@[simp] theorem writeByte_errSite (s : State) (a : Nat) (b : Byte) : (s.writeByte a b).errSite = s.errSite := rfl
@[simp] theorem writeByte_errState (s : State) (a : Nat) (b : Byte) : (s.writeByte a b).errState = s.errState := rfl
@[simp] theorem writeByte_seqState (s : State) (a : Nat) (b : Byte) : (s.writeByte a b).seqState = s.seqState := rfl
@[simp] theorem writeByte_phase (s : State) (a : Nat) (b : Byte) : (s.writeByte a b).phase = s.phase := rfl
@[simp] theorem writeByte_opLat (s : State) (a : Nat) (b : Byte) : (s.writeByte a b).opLat = s.opLat := rfl
@[simp] theorem writeByte_aLat (s : State) (a : Nat) (b : Byte) : (s.writeByte a b).aLat = s.aLat := rfl
@[simp] theorem writeByte_mem (s : State) (a : Nat) (b : Byte) : (s.writeByte a b).mem = s.mem.write a b := rfl
@[simp] theorem writeByte_trace (s : State) (a : Nat) (b : Byte) : (s.writeByte a b).trace = s.trace := rfl
@[simp] theorem writeByte_card (s : State) (a : Nat) (b : Byte) : (s.writeByte a b).card = s.card := rfl
@[simp] theorem writeByte_draws (s : State) (a : Nat) (b : Byte) : (s.writeByte a b).draws = s.draws := rfl
@[simp] theorem writeByte_program (s : State) (a : Nat) (b : Byte) : (s.writeByte a b).program = s.program := rfl
@[simp] theorem writeByte_hpc (s : State) (a : Nat) (b : Byte) : (s.writeByte a b).hpc = s.hpc := rfl
@[simp] theorem writeByte_turns (s : State) (a : Nat) (b : Byte) : (s.writeByte a b).turns = s.turns := rfl
@[simp] theorem writeByte_replies (s : State) (a : Nat) (b : Byte) : (s.writeByte a b).replies = s.replies := rfl

/-! ### recordError -/

@[simp] theorem recordError_cfg (e : Error) (s : State) : (recordError e s).cfg = s.cfg := rfl
@[simp] theorem recordError_csN (e : Error) (s : State) : (recordError e s).csN = s.csN := rfl
@[simp] theorem recordError_clkSel (e : Error) (s : State) : (recordError e s).clkSel = s.clkSel := rfl
@[simp] theorem recordError_r1 (e : Error) (s : State) : (recordError e s).r1 = s.r1 := rfl
@[simp] theorem recordError_r7 (e : Error) (s : State) : (recordError e s).r7 = s.r7 := rfl
@[simp] theorem recordError_ocr (e : Error) (s : State) : (recordError e s).ocr = s.ocr := rfl
@[simp] theorem recordError_dresp (e : Error) (s : State) : (recordError e s).dresp = s.dresp := rfl
@[simp] theorem recordError_csize (e : Error) (s : State) : (recordError e s).csize = s.csize := rfl
@[simp] theorem recordError_capKib (e : Error) (s : State) : (recordError e s).capKib = s.capKib := rfl
@[simp] theorem recordError_attempts (e : Error) (s : State) : (recordError e s).attempts = s.attempts := rfl
@[simp] theorem recordError_addr (e : Error) (s : State) : (recordError e s).addr = s.addr := rfl
@[simp] theorem recordError_busy (e : Error) (s : State) : (recordError e s).busy = s.busy := rfl
@[simp] theorem recordError_ready (e : Error) (s : State) : (recordError e s).ready = s.ready := rfl
@[simp] theorem recordError_bufValid (e : Error) (s : State) : (recordError e s).bufValid = s.bufValid := rfl
@[simp] theorem recordError_csdValid (e : Error) (s : State) : (recordError e s).csdValid = s.csdValid := rfl
@[simp] theorem recordError_capValid (e : Error) (s : State) : (recordError e s).capValid = s.capValid := rfl
@[simp] theorem recordError_hostViolation (e : Error) (s : State) : (recordError e s).hostViolation = s.hostViolation := rfl
@[simp] theorem recordError_refusalMark (e : Error) (s : State) : (recordError e s).refusalMark = s.refusalMark := rfl
@[simp] theorem recordError_err (e : Error) (s : State) : (recordError e s).err = (if s.opLat = opInit then .initializationFailed else e.code) := rfl
@[simp] theorem recordError_errCause (e : Error) (s : State) : (recordError e s).errCause = (if s.opLat = opInit then e.innerCause else e.cause) := rfl
@[simp] theorem recordError_errSite (e : Error) (s : State) : (recordError e s).errSite = e.site := rfl
@[simp] theorem recordError_errState (e : Error) (s : State) : (recordError e s).errState = s.seqState := rfl
@[simp] theorem recordError_seqState (e : Error) (s : State) : (recordError e s).seqState = s.seqState := rfl
@[simp] theorem recordError_phase (e : Error) (s : State) : (recordError e s).phase = s.phase := rfl
@[simp] theorem recordError_opLat (e : Error) (s : State) : (recordError e s).opLat = s.opLat := rfl
@[simp] theorem recordError_aLat (e : Error) (s : State) : (recordError e s).aLat = s.aLat := rfl
@[simp] theorem recordError_mem (e : Error) (s : State) : (recordError e s).mem = s.mem := rfl
@[simp] theorem recordError_trace (e : Error) (s : State) : (recordError e s).trace = s.trace := rfl
@[simp] theorem recordError_card (e : Error) (s : State) : (recordError e s).card = s.card := rfl
@[simp] theorem recordError_draws (e : Error) (s : State) : (recordError e s).draws = s.draws := rfl
@[simp] theorem recordError_program (e : Error) (s : State) : (recordError e s).program = s.program := rfl
@[simp] theorem recordError_hpc (e : Error) (s : State) : (recordError e s).hpc = s.hpc := rfl
@[simp] theorem recordError_turns (e : Error) (s : State) : (recordError e s).turns = s.turns := rfl
@[simp] theorem recordError_replies (e : Error) (s : State) : (recordError e s).replies = s.replies := rfl

/-! ### accept -/

@[simp] theorem accept_cfg (op : Byte) (s : State) : (accept op s).cfg = s.cfg := rfl
@[simp] theorem accept_csN (op : Byte) (s : State) : (accept op s).csN = s.csN := rfl
@[simp] theorem accept_clkSel (op : Byte) (s : State) : (accept op s).clkSel = s.clkSel := rfl
@[simp] theorem accept_r1 (op : Byte) (s : State) : (accept op s).r1 = s.r1 := rfl
@[simp] theorem accept_r7 (op : Byte) (s : State) : (accept op s).r7 = s.r7 := rfl
@[simp] theorem accept_ocr (op : Byte) (s : State) : (accept op s).ocr = s.ocr := rfl
@[simp] theorem accept_dresp (op : Byte) (s : State) : (accept op s).dresp = s.dresp := rfl
@[simp] theorem accept_csize (op : Byte) (s : State) : (accept op s).csize = s.csize := rfl
@[simp] theorem accept_capKib (op : Byte) (s : State) : (accept op s).capKib = s.capKib := rfl
@[simp] theorem accept_attempts (op : Byte) (s : State) : (accept op s).attempts = s.attempts := rfl
@[simp] theorem accept_addr (op : Byte) (s : State) : (accept op s).addr = s.addr := rfl
@[simp] theorem accept_busy (op : Byte) (s : State) : (accept op s).busy = true := rfl
@[simp] theorem accept_ready (op : Byte) (s : State) : (accept op s).ready = s.ready := rfl
@[simp] theorem accept_bufValid (op : Byte) (s : State) : (accept op s).bufValid = s.bufValid := rfl
@[simp] theorem accept_csdValid (op : Byte) (s : State) : (accept op s).csdValid = s.csdValid := rfl
@[simp] theorem accept_capValid (op : Byte) (s : State) : (accept op s).capValid = s.capValid := rfl
@[simp] theorem accept_hostViolation (op : Byte) (s : State) : (accept op s).hostViolation = s.hostViolation := rfl
@[simp] theorem accept_refusalMark (op : Byte) (s : State) : (accept op s).refusalMark = s.refusalMark := rfl
@[simp] theorem accept_err (op : Byte) (s : State) : (accept op s).err = .none := rfl
@[simp] theorem accept_errCause (op : Byte) (s : State) : (accept op s).errCause = .none := rfl
@[simp] theorem accept_errSite (op : Byte) (s : State) : (accept op s).errSite = .none := rfl
@[simp] theorem accept_errState (op : Byte) (s : State) : (accept op s).errState = .uninit := rfl
@[simp] theorem accept_seqState (op : Byte) (s : State) : (accept op s).seqState = s.seqState := rfl
@[simp] theorem accept_phase (op : Byte) (s : State) : (accept op s).phase = s.phase := rfl
@[simp] theorem accept_opLat (op : Byte) (s : State) : (accept op s).opLat = op := rfl
@[simp] theorem accept_aLat (op : Byte) (s : State) : (accept op s).aLat = s.addr := rfl
@[simp] theorem accept_mem (op : Byte) (s : State) : (accept op s).mem = s.mem := rfl
@[simp] theorem accept_trace (op : Byte) (s : State) : (accept op s).trace = s.trace := rfl
@[simp] theorem accept_card (op : Byte) (s : State) : (accept op s).card = s.card := rfl
@[simp] theorem accept_draws (op : Byte) (s : State) : (accept op s).draws = s.draws + 1 := rfl
@[simp] theorem accept_program (op : Byte) (s : State) : (accept op s).program = s.program := rfl
@[simp] theorem accept_hpc (op : Byte) (s : State) : (accept op s).hpc = s.hpc := rfl
@[simp] theorem accept_turns (op : Byte) (s : State) : (accept op s).turns = s.turns := rfl
@[simp] theorem accept_replies (op : Byte) (s : State) : (accept op s).replies = s.replies := rfl

/-! ### refuse -/

@[simp] theorem refuse_cfg (c : ErrCause) (s : State) : (refuse c s).cfg = s.cfg := rfl
@[simp] theorem refuse_csN (c : ErrCause) (s : State) : (refuse c s).csN = s.csN := rfl
@[simp] theorem refuse_clkSel (c : ErrCause) (s : State) : (refuse c s).clkSel = s.clkSel := rfl
@[simp] theorem refuse_r1 (c : ErrCause) (s : State) : (refuse c s).r1 = s.r1 := rfl
@[simp] theorem refuse_r7 (c : ErrCause) (s : State) : (refuse c s).r7 = s.r7 := rfl
@[simp] theorem refuse_ocr (c : ErrCause) (s : State) : (refuse c s).ocr = s.ocr := rfl
@[simp] theorem refuse_dresp (c : ErrCause) (s : State) : (refuse c s).dresp = s.dresp := rfl
@[simp] theorem refuse_csize (c : ErrCause) (s : State) : (refuse c s).csize = s.csize := rfl
@[simp] theorem refuse_capKib (c : ErrCause) (s : State) : (refuse c s).capKib = s.capKib := rfl
@[simp] theorem refuse_attempts (c : ErrCause) (s : State) : (refuse c s).attempts = s.attempts := rfl
@[simp] theorem refuse_addr (c : ErrCause) (s : State) : (refuse c s).addr = s.addr := rfl
@[simp] theorem refuse_busy (c : ErrCause) (s : State) : (refuse c s).busy = s.busy := rfl
@[simp] theorem refuse_ready (c : ErrCause) (s : State) : (refuse c s).ready = s.ready := rfl
@[simp] theorem refuse_bufValid (c : ErrCause) (s : State) : (refuse c s).bufValid = s.bufValid := rfl
@[simp] theorem refuse_csdValid (c : ErrCause) (s : State) : (refuse c s).csdValid = s.csdValid := rfl
@[simp] theorem refuse_capValid (c : ErrCause) (s : State) : (refuse c s).capValid = s.capValid := rfl
@[simp] theorem refuse_hostViolation (c : ErrCause) (s : State) : (refuse c s).hostViolation = s.hostViolation := rfl
@[simp] theorem refuse_refusalMark (c : ErrCause) (s : State) : (refuse c s).refusalMark = s.refusalMark := rfl
@[simp] theorem refuse_err (c : ErrCause) (s : State) : (refuse c s).err = .requestRefused := rfl
@[simp] theorem refuse_errCause (c : ErrCause) (s : State) : (refuse c s).errCause = c := rfl
@[simp] theorem refuse_errSite (c : ErrCause) (s : State) : (refuse c s).errSite = .none := rfl
@[simp] theorem refuse_errState (c : ErrCause) (s : State) : (refuse c s).errState = s.seqState := rfl
@[simp] theorem refuse_seqState (c : ErrCause) (s : State) : (refuse c s).seqState = s.seqState := rfl
@[simp] theorem refuse_phase (c : ErrCause) (s : State) : (refuse c s).phase = s.phase := rfl
@[simp] theorem refuse_opLat (c : ErrCause) (s : State) : (refuse c s).opLat = s.opLat := rfl
@[simp] theorem refuse_aLat (c : ErrCause) (s : State) : (refuse c s).aLat = s.aLat := rfl
@[simp] theorem refuse_mem (c : ErrCause) (s : State) : (refuse c s).mem = s.mem := rfl
@[simp] theorem refuse_trace (c : ErrCause) (s : State) : (refuse c s).trace = s.trace := rfl
@[simp] theorem refuse_card (c : ErrCause) (s : State) : (refuse c s).card = s.card := rfl
@[simp] theorem refuse_draws (c : ErrCause) (s : State) : (refuse c s).draws = s.draws + 1 := rfl
@[simp] theorem refuse_program (c : ErrCause) (s : State) : (refuse c s).program = s.program := rfl
@[simp] theorem refuse_hpc (c : ErrCause) (s : State) : (refuse c s).hpc = s.hpc := rfl
@[simp] theorem refuse_turns (c : ErrCause) (s : State) : (refuse c s).turns = s.turns := rfl
@[simp] theorem refuse_replies (c : ErrCause) (s : State) : (refuse c s).replies = s.replies := rfl

/-! ### violation -/

@[simp] theorem violation_cfg (s : State) : (violation s).cfg = s.cfg := rfl
@[simp] theorem violation_csN (s : State) : (violation s).csN = s.csN := rfl
@[simp] theorem violation_clkSel (s : State) : (violation s).clkSel = s.clkSel := rfl
@[simp] theorem violation_r1 (s : State) : (violation s).r1 = s.r1 := rfl
@[simp] theorem violation_r7 (s : State) : (violation s).r7 = s.r7 := rfl
@[simp] theorem violation_ocr (s : State) : (violation s).ocr = s.ocr := rfl
@[simp] theorem violation_dresp (s : State) : (violation s).dresp = s.dresp := rfl
@[simp] theorem violation_csize (s : State) : (violation s).csize = s.csize := rfl
@[simp] theorem violation_capKib (s : State) : (violation s).capKib = s.capKib := rfl
@[simp] theorem violation_attempts (s : State) : (violation s).attempts = s.attempts := rfl
@[simp] theorem violation_addr (s : State) : (violation s).addr = s.addr := rfl
@[simp] theorem violation_busy (s : State) : (violation s).busy = s.busy := rfl
@[simp] theorem violation_ready (s : State) : (violation s).ready = s.ready := rfl
@[simp] theorem violation_bufValid (s : State) : (violation s).bufValid = s.bufValid := rfl
@[simp] theorem violation_csdValid (s : State) : (violation s).csdValid = s.csdValid := rfl
@[simp] theorem violation_capValid (s : State) : (violation s).capValid = s.capValid := rfl
@[simp] theorem violation_hostViolation (s : State) : (violation s).hostViolation = true := rfl
@[simp] theorem violation_refusalMark (s : State) : (violation s).refusalMark = true := rfl
@[simp] theorem violation_err (s : State) : (violation s).err = s.err := rfl
@[simp] theorem violation_errCause (s : State) : (violation s).errCause = s.errCause := rfl
@[simp] theorem violation_errSite (s : State) : (violation s).errSite = s.errSite := rfl
@[simp] theorem violation_errState (s : State) : (violation s).errState = s.errState := rfl
@[simp] theorem violation_seqState (s : State) : (violation s).seqState = s.seqState := rfl
@[simp] theorem violation_phase (s : State) : (violation s).phase = s.phase := rfl
@[simp] theorem violation_opLat (s : State) : (violation s).opLat = s.opLat := rfl
@[simp] theorem violation_aLat (s : State) : (violation s).aLat = s.aLat := rfl
@[simp] theorem violation_mem (s : State) : (violation s).mem = s.mem := rfl
@[simp] theorem violation_trace (s : State) : (violation s).trace = s.trace := rfl
@[simp] theorem violation_card (s : State) : (violation s).card = s.card := rfl
@[simp] theorem violation_draws (s : State) : (violation s).draws = s.draws + 1 := rfl
@[simp] theorem violation_program (s : State) : (violation s).program = s.program := rfl
@[simp] theorem violation_hpc (s : State) : (violation s).hpc = s.hpc := rfl
@[simp] theorem violation_turns (s : State) : (violation s).turns = s.turns := rfl
@[simp] theorem violation_replies (s : State) : (violation s).replies = s.replies := rfl

/-! ### startTxn -/

@[simp] theorem startTxn_cfg (c : Cmd) (s : State) : (startTxn c s).cfg = s.cfg := rfl
@[simp] theorem startTxn_csN (c : Cmd) (s : State) : (startTxn c s).csN = s.csN := rfl
@[simp] theorem startTxn_clkSel (c : Cmd) (s : State) : (startTxn c s).clkSel = s.clkSel := rfl
@[simp] theorem startTxn_r1 (c : Cmd) (s : State) : (startTxn c s).r1 = s.r1 := rfl
@[simp] theorem startTxn_r7 (c : Cmd) (s : State) : (startTxn c s).r7 = s.r7 := rfl
@[simp] theorem startTxn_ocr (c : Cmd) (s : State) : (startTxn c s).ocr = s.ocr := rfl
@[simp] theorem startTxn_dresp (c : Cmd) (s : State) : (startTxn c s).dresp = s.dresp := rfl
@[simp] theorem startTxn_csize (c : Cmd) (s : State) : (startTxn c s).csize = s.csize := rfl
@[simp] theorem startTxn_capKib (c : Cmd) (s : State) : (startTxn c s).capKib = s.capKib := rfl
@[simp] theorem startTxn_attempts (c : Cmd) (s : State) : (startTxn c s).attempts = s.attempts := rfl
@[simp] theorem startTxn_addr (c : Cmd) (s : State) : (startTxn c s).addr = s.addr := rfl
@[simp] theorem startTxn_busy (c : Cmd) (s : State) : (startTxn c s).busy = s.busy := rfl
@[simp] theorem startTxn_ready (c : Cmd) (s : State) : (startTxn c s).ready = s.ready := rfl
@[simp] theorem startTxn_bufValid (c : Cmd) (s : State) : (startTxn c s).bufValid = s.bufValid := rfl
@[simp] theorem startTxn_csdValid (c : Cmd) (s : State) : (startTxn c s).csdValid = s.csdValid := rfl
@[simp] theorem startTxn_capValid (c : Cmd) (s : State) : (startTxn c s).capValid = s.capValid := rfl
@[simp] theorem startTxn_hostViolation (c : Cmd) (s : State) : (startTxn c s).hostViolation = s.hostViolation := rfl
@[simp] theorem startTxn_refusalMark (c : Cmd) (s : State) : (startTxn c s).refusalMark = s.refusalMark := rfl
@[simp] theorem startTxn_err (c : Cmd) (s : State) : (startTxn c s).err = s.err := rfl
@[simp] theorem startTxn_errCause (c : Cmd) (s : State) : (startTxn c s).errCause = s.errCause := rfl
@[simp] theorem startTxn_errSite (c : Cmd) (s : State) : (startTxn c s).errSite = s.errSite := rfl
@[simp] theorem startTxn_errState (c : Cmd) (s : State) : (startTxn c s).errState = s.errState := rfl
@[simp] theorem startTxn_seqState (c : Cmd) (s : State) : (startTxn c s).seqState = s.seqState := rfl
@[simp] theorem startTxn_phase (c : Cmd) (s : State) : (startTxn c s).phase = .select c := rfl
@[simp] theorem startTxn_opLat (c : Cmd) (s : State) : (startTxn c s).opLat = s.opLat := rfl
@[simp] theorem startTxn_aLat (c : Cmd) (s : State) : (startTxn c s).aLat = s.aLat := rfl
@[simp] theorem startTxn_mem (c : Cmd) (s : State) : (startTxn c s).mem = s.mem := rfl
@[simp] theorem startTxn_trace (c : Cmd) (s : State) : (startTxn c s).trace = s.trace := rfl
@[simp] theorem startTxn_card (c : Cmd) (s : State) : (startTxn c s).card = s.card := rfl
@[simp] theorem startTxn_draws (c : Cmd) (s : State) : (startTxn c s).draws = s.draws := rfl
@[simp] theorem startTxn_program (c : Cmd) (s : State) : (startTxn c s).program = s.program := rfl
@[simp] theorem startTxn_hpc (c : Cmd) (s : State) : (startTxn c s).hpc = s.hpc := rfl
@[simp] theorem startTxn_turns (c : Cmd) (s : State) : (startTxn c s).turns = s.turns := rfl
@[simp] theorem startTxn_replies (c : Cmd) (s : State) : (startTxn c s).replies = s.replies := rfl

/-! ### complete -/

@[simp] theorem complete_cfg (s : State) : (complete s).cfg = s.cfg := rfl
@[simp] theorem complete_csN (s : State) : (complete s).csN = s.csN := rfl
@[simp] theorem complete_clkSel (s : State) : (complete s).clkSel = s.clkSel := rfl
@[simp] theorem complete_r1 (s : State) : (complete s).r1 = s.r1 := rfl
@[simp] theorem complete_r7 (s : State) : (complete s).r7 = s.r7 := rfl
@[simp] theorem complete_ocr (s : State) : (complete s).ocr = s.ocr := rfl
@[simp] theorem complete_dresp (s : State) : (complete s).dresp = s.dresp := rfl
@[simp] theorem complete_csize (s : State) : (complete s).csize = s.csize := rfl
@[simp] theorem complete_capKib (s : State) : (complete s).capKib = s.capKib := rfl
@[simp] theorem complete_attempts (s : State) : (complete s).attempts = s.attempts := rfl
@[simp] theorem complete_addr (s : State) : (complete s).addr = s.addr := rfl
@[simp] theorem complete_busy (s : State) : (complete s).busy = false := rfl
@[simp] theorem complete_ready (s : State) : (complete s).ready = s.ready := rfl
@[simp] theorem complete_bufValid (s : State) : (complete s).bufValid = s.bufValid := rfl
@[simp] theorem complete_csdValid (s : State) : (complete s).csdValid = s.csdValid := rfl
@[simp] theorem complete_capValid (s : State) : (complete s).capValid = s.capValid := rfl
@[simp] theorem complete_hostViolation (s : State) : (complete s).hostViolation = s.hostViolation := rfl
@[simp] theorem complete_refusalMark (s : State) : (complete s).refusalMark = s.refusalMark := rfl
@[simp] theorem complete_err (s : State) : (complete s).err = s.err := rfl
@[simp] theorem complete_errCause (s : State) : (complete s).errCause = s.errCause := rfl
@[simp] theorem complete_errSite (s : State) : (complete s).errSite = s.errSite := rfl
@[simp] theorem complete_errState (s : State) : (complete s).errState = s.errState := rfl
@[simp] theorem complete_seqState (s : State) : (complete s).seqState = .ready := rfl
@[simp] theorem complete_phase (s : State) : (complete s).phase = .idle := rfl
@[simp] theorem complete_opLat (s : State) : (complete s).opLat = s.opLat := rfl
@[simp] theorem complete_aLat (s : State) : (complete s).aLat = s.aLat := rfl
@[simp] theorem complete_mem (s : State) : (complete s).mem = s.mem := rfl
@[simp] theorem complete_trace (s : State) : (complete s).trace = s.trace := rfl
@[simp] theorem complete_card (s : State) : (complete s).card = s.card := rfl
@[simp] theorem complete_draws (s : State) : (complete s).draws = s.draws := rfl
@[simp] theorem complete_program (s : State) : (complete s).program = s.program := rfl
@[simp] theorem complete_hpc (s : State) : (complete s).hpc = s.hpc := rfl
@[simp] theorem complete_turns (s : State) : (complete s).turns = s.turns := rfl
@[simp] theorem complete_replies (s : State) : (complete s).replies = s.replies := rfl

/-! ### completeInit -/

@[simp] theorem completeInit_cfg (s : State) : (completeInit s).cfg = s.cfg := rfl
@[simp] theorem completeInit_csN (s : State) : (completeInit s).csN = s.csN := rfl
@[simp] theorem completeInit_clkSel (s : State) : (completeInit s).clkSel = s.clkSel := rfl
@[simp] theorem completeInit_r1 (s : State) : (completeInit s).r1 = s.r1 := rfl
@[simp] theorem completeInit_r7 (s : State) : (completeInit s).r7 = s.r7 := rfl
@[simp] theorem completeInit_ocr (s : State) : (completeInit s).ocr = s.ocr := rfl
@[simp] theorem completeInit_dresp (s : State) : (completeInit s).dresp = s.dresp := rfl
@[simp] theorem completeInit_csize (s : State) : (completeInit s).csize = s.csize := rfl
@[simp] theorem completeInit_capKib (s : State) : (completeInit s).capKib = s.capKib := rfl
@[simp] theorem completeInit_attempts (s : State) : (completeInit s).attempts = s.attempts := rfl
@[simp] theorem completeInit_addr (s : State) : (completeInit s).addr = s.addr := rfl
@[simp] theorem completeInit_busy (s : State) : (completeInit s).busy = false := rfl
@[simp] theorem completeInit_ready (s : State) : (completeInit s).ready = true := rfl
@[simp] theorem completeInit_bufValid (s : State) : (completeInit s).bufValid = s.bufValid := rfl
@[simp] theorem completeInit_csdValid (s : State) : (completeInit s).csdValid = s.csdValid := rfl
@[simp] theorem completeInit_capValid (s : State) : (completeInit s).capValid = s.capValid := rfl
@[simp] theorem completeInit_hostViolation (s : State) : (completeInit s).hostViolation = s.hostViolation := rfl
@[simp] theorem completeInit_refusalMark (s : State) : (completeInit s).refusalMark = s.refusalMark := rfl
@[simp] theorem completeInit_err (s : State) : (completeInit s).err = s.err := rfl
@[simp] theorem completeInit_errCause (s : State) : (completeInit s).errCause = s.errCause := rfl
@[simp] theorem completeInit_errSite (s : State) : (completeInit s).errSite = s.errSite := rfl
@[simp] theorem completeInit_errState (s : State) : (completeInit s).errState = s.errState := rfl
@[simp] theorem completeInit_seqState (s : State) : (completeInit s).seqState = .ready := rfl
@[simp] theorem completeInit_phase (s : State) : (completeInit s).phase = .idle := rfl
@[simp] theorem completeInit_opLat (s : State) : (completeInit s).opLat = s.opLat := rfl
@[simp] theorem completeInit_aLat (s : State) : (completeInit s).aLat = s.aLat := rfl
@[simp] theorem completeInit_mem (s : State) : (completeInit s).mem = s.mem := rfl
@[simp] theorem completeInit_trace (s : State) : (completeInit s).trace = s.trace := rfl
@[simp] theorem completeInit_card (s : State) : (completeInit s).card = s.card := rfl
@[simp] theorem completeInit_draws (s : State) : (completeInit s).draws = s.draws := rfl
@[simp] theorem completeInit_program (s : State) : (completeInit s).program = s.program := rfl
@[simp] theorem completeInit_hpc (s : State) : (completeInit s).hpc = s.hpc := rfl
@[simp] theorem completeInit_turns (s : State) : (completeInit s).turns = s.turns := rfl
@[simp] theorem completeInit_replies (s : State) : (completeInit s).replies = s.replies := rfl

/-! ### takeTurn -/

@[simp] theorem takeTurn_cfg (s : State) : (takeTurn s).cfg = s.cfg := rfl
@[simp] theorem takeTurn_csN (s : State) : (takeTurn s).csN = s.csN := rfl
@[simp] theorem takeTurn_clkSel (s : State) : (takeTurn s).clkSel = s.clkSel := rfl
@[simp] theorem takeTurn_r1 (s : State) : (takeTurn s).r1 = s.r1 := rfl
@[simp] theorem takeTurn_r7 (s : State) : (takeTurn s).r7 = s.r7 := rfl
@[simp] theorem takeTurn_ocr (s : State) : (takeTurn s).ocr = s.ocr := rfl
@[simp] theorem takeTurn_dresp (s : State) : (takeTurn s).dresp = s.dresp := rfl
@[simp] theorem takeTurn_csize (s : State) : (takeTurn s).csize = s.csize := rfl
@[simp] theorem takeTurn_capKib (s : State) : (takeTurn s).capKib = s.capKib := rfl
@[simp] theorem takeTurn_attempts (s : State) : (takeTurn s).attempts = s.attempts := rfl
@[simp] theorem takeTurn_addr (s : State) : (takeTurn s).addr = s.addr := rfl
@[simp] theorem takeTurn_busy (s : State) : (takeTurn s).busy = s.busy := rfl
@[simp] theorem takeTurn_ready (s : State) : (takeTurn s).ready = s.ready := rfl
@[simp] theorem takeTurn_bufValid (s : State) : (takeTurn s).bufValid = s.bufValid := rfl
@[simp] theorem takeTurn_csdValid (s : State) : (takeTurn s).csdValid = s.csdValid := rfl
@[simp] theorem takeTurn_capValid (s : State) : (takeTurn s).capValid = s.capValid := rfl
@[simp] theorem takeTurn_hostViolation (s : State) : (takeTurn s).hostViolation = s.hostViolation := rfl
@[simp] theorem takeTurn_refusalMark (s : State) : (takeTurn s).refusalMark = s.refusalMark := rfl
@[simp] theorem takeTurn_err (s : State) : (takeTurn s).err = s.err := rfl
@[simp] theorem takeTurn_errCause (s : State) : (takeTurn s).errCause = s.errCause := rfl
@[simp] theorem takeTurn_errSite (s : State) : (takeTurn s).errSite = s.errSite := rfl
@[simp] theorem takeTurn_errState (s : State) : (takeTurn s).errState = s.errState := rfl
@[simp] theorem takeTurn_seqState (s : State) : (takeTurn s).seqState = s.seqState := rfl
@[simp] theorem takeTurn_phase (s : State) : (takeTurn s).phase = s.phase := rfl
@[simp] theorem takeTurn_opLat (s : State) : (takeTurn s).opLat = s.opLat := rfl
@[simp] theorem takeTurn_aLat (s : State) : (takeTurn s).aLat = s.aLat := rfl
@[simp] theorem takeTurn_mem (s : State) : (takeTurn s).mem = s.mem := rfl
@[simp] theorem takeTurn_trace (s : State) : (takeTurn s).trace = s.trace := rfl
@[simp] theorem takeTurn_card (s : State) : (takeTurn s).card = s.card := rfl
@[simp] theorem takeTurn_draws (s : State) : (takeTurn s).draws = s.draws := rfl
@[simp] theorem takeTurn_program (s : State) : (takeTurn s).program = s.program := rfl
@[simp] theorem takeTurn_hpc (s : State) : (takeTurn s).hpc = s.hpc := rfl
@[simp] theorem takeTurn_turns (s : State) : (takeTurn s).turns = s.turns.tail := rfl
@[simp] theorem takeTurn_replies (s : State) : (takeTurn s).replies = s.replies := rfl

/-! ### readyFrame -/

@[simp] theorem readyFrame_cfg (c : Cmd) (s : State) : (readyFrame c s).cfg = s.cfg := rfl
@[simp] theorem readyFrame_csN (c : Cmd) (s : State) : (readyFrame c s).csN = s.csN := rfl
@[simp] theorem readyFrame_clkSel (c : Cmd) (s : State) : (readyFrame c s).clkSel = s.clkSel := rfl
@[simp] theorem readyFrame_r1 (c : Cmd) (s : State) : (readyFrame c s).r1 = s.r1 := rfl
@[simp] theorem readyFrame_r7 (c : Cmd) (s : State) : (readyFrame c s).r7 = s.r7 := rfl
@[simp] theorem readyFrame_ocr (c : Cmd) (s : State) : (readyFrame c s).ocr = s.ocr := rfl
@[simp] theorem readyFrame_dresp (c : Cmd) (s : State) : (readyFrame c s).dresp = s.dresp := rfl
@[simp] theorem readyFrame_csize (c : Cmd) (s : State) : (readyFrame c s).csize = s.csize := rfl
@[simp] theorem readyFrame_capKib (c : Cmd) (s : State) : (readyFrame c s).capKib = s.capKib := rfl
@[simp] theorem readyFrame_attempts (c : Cmd) (s : State) : (readyFrame c s).attempts = s.attempts := rfl
@[simp] theorem readyFrame_addr (c : Cmd) (s : State) : (readyFrame c s).addr = s.addr := rfl
@[simp] theorem readyFrame_busy (c : Cmd) (s : State) : (readyFrame c s).busy = s.busy := rfl
@[simp] theorem readyFrame_ready (c : Cmd) (s : State) : (readyFrame c s).ready = s.ready := rfl
@[simp] theorem readyFrame_bufValid (c : Cmd) (s : State) : (readyFrame c s).bufValid = s.bufValid := rfl
@[simp] theorem readyFrame_csdValid (c : Cmd) (s : State) : (readyFrame c s).csdValid = s.csdValid := rfl
@[simp] theorem readyFrame_capValid (c : Cmd) (s : State) : (readyFrame c s).capValid = s.capValid := rfl
@[simp] theorem readyFrame_hostViolation (c : Cmd) (s : State) : (readyFrame c s).hostViolation = s.hostViolation := rfl
@[simp] theorem readyFrame_refusalMark (c : Cmd) (s : State) : (readyFrame c s).refusalMark = s.refusalMark := rfl
@[simp] theorem readyFrame_err (c : Cmd) (s : State) : (readyFrame c s).err = s.err := rfl
@[simp] theorem readyFrame_errCause (c : Cmd) (s : State) : (readyFrame c s).errCause = s.errCause := rfl
@[simp] theorem readyFrame_errSite (c : Cmd) (s : State) : (readyFrame c s).errSite = s.errSite := rfl
@[simp] theorem readyFrame_errState (c : Cmd) (s : State) : (readyFrame c s).errState = s.errState := rfl
@[simp] theorem readyFrame_seqState (c : Cmd) (s : State) : (readyFrame c s).seqState = s.seqState := rfl
@[simp] theorem readyFrame_phase (c : Cmd) (s : State) : (readyFrame c s).phase = .issue (frameOf c s) := rfl
@[simp] theorem readyFrame_opLat (c : Cmd) (s : State) : (readyFrame c s).opLat = s.opLat := rfl
@[simp] theorem readyFrame_aLat (c : Cmd) (s : State) : (readyFrame c s).aLat = s.aLat := rfl
@[simp] theorem readyFrame_mem (c : Cmd) (s : State) : (readyFrame c s).mem = s.mem := rfl
@[simp] theorem readyFrame_trace (c : Cmd) (s : State) : (readyFrame c s).trace = s.trace := rfl
@[simp] theorem readyFrame_card (c : Cmd) (s : State) : (readyFrame c s).card = s.card := rfl
@[simp] theorem readyFrame_draws (c : Cmd) (s : State) : (readyFrame c s).draws = s.draws := rfl
@[simp] theorem readyFrame_program (c : Cmd) (s : State) : (readyFrame c s).program = s.program := rfl
@[simp] theorem readyFrame_hpc (c : Cmd) (s : State) : (readyFrame c s).hpc = s.hpc := rfl
@[simp] theorem readyFrame_turns (c : Cmd) (s : State) : (readyFrame c s).turns = s.turns := rfl
@[simp] theorem readyFrame_replies (c : Cmd) (s : State) : (readyFrame c s).replies = s.replies := rfl

/-! ### startEnd -/

@[simp] theorem startEnd_cfg (c : Cmd) (r : Option Byte) (s : State) : (startEnd c r s).cfg = s.cfg := rfl
@[simp] theorem startEnd_csN (c : Cmd) (r : Option Byte) (s : State) : (startEnd c r s).csN = s.csN := rfl
@[simp] theorem startEnd_clkSel (c : Cmd) (r : Option Byte) (s : State) : (startEnd c r s).clkSel = s.clkSel := rfl
@[simp] theorem startEnd_r1 (c : Cmd) (r : Option Byte) (s : State) : (startEnd c r s).r1 = s.r1 := rfl
@[simp] theorem startEnd_r7 (c : Cmd) (r : Option Byte) (s : State) : (startEnd c r s).r7 = s.r7 := rfl
@[simp] theorem startEnd_ocr (c : Cmd) (r : Option Byte) (s : State) : (startEnd c r s).ocr = s.ocr := rfl
@[simp] theorem startEnd_dresp (c : Cmd) (r : Option Byte) (s : State) : (startEnd c r s).dresp = s.dresp := rfl
@[simp] theorem startEnd_csize (c : Cmd) (r : Option Byte) (s : State) : (startEnd c r s).csize = s.csize := rfl
@[simp] theorem startEnd_capKib (c : Cmd) (r : Option Byte) (s : State) : (startEnd c r s).capKib = s.capKib := rfl
@[simp] theorem startEnd_attempts (c : Cmd) (r : Option Byte) (s : State) : (startEnd c r s).attempts = s.attempts := rfl
@[simp] theorem startEnd_addr (c : Cmd) (r : Option Byte) (s : State) : (startEnd c r s).addr = s.addr := rfl
@[simp] theorem startEnd_busy (c : Cmd) (r : Option Byte) (s : State) : (startEnd c r s).busy = s.busy := rfl
@[simp] theorem startEnd_ready (c : Cmd) (r : Option Byte) (s : State) : (startEnd c r s).ready = s.ready := rfl
@[simp] theorem startEnd_bufValid (c : Cmd) (r : Option Byte) (s : State) : (startEnd c r s).bufValid = s.bufValid := rfl
@[simp] theorem startEnd_csdValid (c : Cmd) (r : Option Byte) (s : State) : (startEnd c r s).csdValid = s.csdValid := rfl
@[simp] theorem startEnd_capValid (c : Cmd) (r : Option Byte) (s : State) : (startEnd c r s).capValid = s.capValid := rfl
@[simp] theorem startEnd_hostViolation (c : Cmd) (r : Option Byte) (s : State) : (startEnd c r s).hostViolation = s.hostViolation := rfl
@[simp] theorem startEnd_refusalMark (c : Cmd) (r : Option Byte) (s : State) : (startEnd c r s).refusalMark = s.refusalMark := rfl
@[simp] theorem startEnd_err (c : Cmd) (r : Option Byte) (s : State) : (startEnd c r s).err = s.err := rfl
@[simp] theorem startEnd_errCause (c : Cmd) (r : Option Byte) (s : State) : (startEnd c r s).errCause = s.errCause := rfl
@[simp] theorem startEnd_errSite (c : Cmd) (r : Option Byte) (s : State) : (startEnd c r s).errSite = s.errSite := rfl
@[simp] theorem startEnd_errState (c : Cmd) (r : Option Byte) (s : State) : (startEnd c r s).errState = s.errState := rfl
@[simp] theorem startEnd_seqState (c : Cmd) (r : Option Byte) (s : State) : (startEnd c r s).seqState = s.seqState := rfl
@[simp] theorem startEnd_phase (c : Cmd) (r : Option Byte) (s : State) : (startEnd c r s).phase = .deselect c r := rfl
@[simp] theorem startEnd_opLat (c : Cmd) (r : Option Byte) (s : State) : (startEnd c r s).opLat = s.opLat := rfl
@[simp] theorem startEnd_aLat (c : Cmd) (r : Option Byte) (s : State) : (startEnd c r s).aLat = s.aLat := rfl
@[simp] theorem startEnd_mem (c : Cmd) (r : Option Byte) (s : State) : (startEnd c r s).mem = s.mem := rfl
@[simp] theorem startEnd_trace (c : Cmd) (r : Option Byte) (s : State) : (startEnd c r s).trace = s.trace := rfl
@[simp] theorem startEnd_card (c : Cmd) (r : Option Byte) (s : State) : (startEnd c r s).card = s.card := rfl
@[simp] theorem startEnd_draws (c : Cmd) (r : Option Byte) (s : State) : (startEnd c r s).draws = s.draws := rfl
@[simp] theorem startEnd_program (c : Cmd) (r : Option Byte) (s : State) : (startEnd c r s).program = s.program := rfl
@[simp] theorem startEnd_hpc (c : Cmd) (r : Option Byte) (s : State) : (startEnd c r s).hpc = s.hpc := rfl
@[simp] theorem startEnd_turns (c : Cmd) (r : Option Byte) (s : State) : (startEnd c r s).turns = s.turns := rfl
@[simp] theorem startEnd_replies (c : Cmd) (r : Option Byte) (s : State) : (startEnd c r s).replies = s.replies := rfl

/-! ### forgetFilled, leaveError -/

/-- R613: which bytes an error exit takes the value from, as one memory. -/
theorem forgetFilled_eq (s : State) : forgetFilled s = { s with mem := (forgetFilled s).mem } := by
  unfold forgetFilled; split
  · rfl
  · split <;> rfl

theorem forgetFilled_mem (s : State) : (forgetFilled s).mem =
    if s.opLat = opReadBlock then s.mem.forget bufBase bufSize
    else if s.opLat = opReadCsd ∨ s.opLat = opGetCapacity then s.mem.forget csdBase csdSize
    else s.mem := by
  unfold forgetFilled; split
  · rfl
  · split <;> rfl

@[simp] theorem forgetFilled_cfg (s : State) : (forgetFilled s).cfg = s.cfg := by rw [forgetFilled_eq]
@[simp] theorem forgetFilled_csN (s : State) : (forgetFilled s).csN = s.csN := by rw [forgetFilled_eq]
@[simp] theorem forgetFilled_clkSel (s : State) : (forgetFilled s).clkSel = s.clkSel := by rw [forgetFilled_eq]
@[simp] theorem forgetFilled_r1 (s : State) : (forgetFilled s).r1 = s.r1 := by rw [forgetFilled_eq]
@[simp] theorem forgetFilled_r7 (s : State) : (forgetFilled s).r7 = s.r7 := by rw [forgetFilled_eq]
@[simp] theorem forgetFilled_ocr (s : State) : (forgetFilled s).ocr = s.ocr := by rw [forgetFilled_eq]
@[simp] theorem forgetFilled_dresp (s : State) : (forgetFilled s).dresp = s.dresp := by rw [forgetFilled_eq]
@[simp] theorem forgetFilled_csize (s : State) : (forgetFilled s).csize = s.csize := by rw [forgetFilled_eq]
@[simp] theorem forgetFilled_capKib (s : State) : (forgetFilled s).capKib = s.capKib := by rw [forgetFilled_eq]
@[simp] theorem forgetFilled_attempts (s : State) : (forgetFilled s).attempts = s.attempts := by rw [forgetFilled_eq]
@[simp] theorem forgetFilled_addr (s : State) : (forgetFilled s).addr = s.addr := by rw [forgetFilled_eq]
@[simp] theorem forgetFilled_busy (s : State) : (forgetFilled s).busy = s.busy := by rw [forgetFilled_eq]
@[simp] theorem forgetFilled_ready (s : State) : (forgetFilled s).ready = s.ready := by rw [forgetFilled_eq]
@[simp] theorem forgetFilled_bufValid (s : State) : (forgetFilled s).bufValid = s.bufValid := by rw [forgetFilled_eq]
@[simp] theorem forgetFilled_csdValid (s : State) : (forgetFilled s).csdValid = s.csdValid := by rw [forgetFilled_eq]
@[simp] theorem forgetFilled_capValid (s : State) : (forgetFilled s).capValid = s.capValid := by rw [forgetFilled_eq]
@[simp] theorem forgetFilled_hostViolation (s : State) : (forgetFilled s).hostViolation = s.hostViolation := by rw [forgetFilled_eq]
@[simp] theorem forgetFilled_refusalMark (s : State) : (forgetFilled s).refusalMark = s.refusalMark := by rw [forgetFilled_eq]
@[simp] theorem forgetFilled_err (s : State) : (forgetFilled s).err = s.err := by rw [forgetFilled_eq]
@[simp] theorem forgetFilled_errCause (s : State) : (forgetFilled s).errCause = s.errCause := by rw [forgetFilled_eq]
@[simp] theorem forgetFilled_errSite (s : State) : (forgetFilled s).errSite = s.errSite := by rw [forgetFilled_eq]
@[simp] theorem forgetFilled_errState (s : State) : (forgetFilled s).errState = s.errState := by rw [forgetFilled_eq]
@[simp] theorem forgetFilled_seqState (s : State) : (forgetFilled s).seqState = s.seqState := by rw [forgetFilled_eq]
@[simp] theorem forgetFilled_phase (s : State) : (forgetFilled s).phase = s.phase := by rw [forgetFilled_eq]
@[simp] theorem forgetFilled_opLat (s : State) : (forgetFilled s).opLat = s.opLat := by rw [forgetFilled_eq]
@[simp] theorem forgetFilled_aLat (s : State) : (forgetFilled s).aLat = s.aLat := by rw [forgetFilled_eq]
@[simp] theorem forgetFilled_trace (s : State) : (forgetFilled s).trace = s.trace := by rw [forgetFilled_eq]
@[simp] theorem forgetFilled_card (s : State) : (forgetFilled s).card = s.card := by rw [forgetFilled_eq]
@[simp] theorem forgetFilled_draws (s : State) : (forgetFilled s).draws = s.draws := by rw [forgetFilled_eq]
@[simp] theorem forgetFilled_program (s : State) : (forgetFilled s).program = s.program := by rw [forgetFilled_eq]
@[simp] theorem forgetFilled_hpc (s : State) : (forgetFilled s).hpc = s.hpc := by rw [forgetFilled_eq]
@[simp] theorem forgetFilled_turns (s : State) : (forgetFilled s).turns = s.turns := by rw [forgetFilled_eq]
@[simp] theorem forgetFilled_replies (s : State) : (forgetFilled s).replies = s.replies := by rw [forgetFilled_eq]

@[simp] theorem leaveError_cfg (s : State) : (leaveError s).cfg = s.cfg := forgetFilled_cfg s
@[simp] theorem leaveError_csN (s : State) : (leaveError s).csN = s.csN := forgetFilled_csN s
@[simp] theorem leaveError_clkSel (s : State) : (leaveError s).clkSel = s.clkSel := forgetFilled_clkSel s
@[simp] theorem leaveError_r1 (s : State) : (leaveError s).r1 = s.r1 := forgetFilled_r1 s
@[simp] theorem leaveError_r7 (s : State) : (leaveError s).r7 = s.r7 := forgetFilled_r7 s
@[simp] theorem leaveError_ocr (s : State) : (leaveError s).ocr = s.ocr := forgetFilled_ocr s
@[simp] theorem leaveError_dresp (s : State) : (leaveError s).dresp = s.dresp := forgetFilled_dresp s
@[simp] theorem leaveError_csize (s : State) : (leaveError s).csize = s.csize := forgetFilled_csize s
@[simp] theorem leaveError_capKib (s : State) : (leaveError s).capKib = s.capKib := forgetFilled_capKib s
@[simp] theorem leaveError_attempts (s : State) : (leaveError s).attempts = s.attempts := forgetFilled_attempts s
@[simp] theorem leaveError_addr (s : State) : (leaveError s).addr = s.addr := forgetFilled_addr s
@[simp] theorem leaveError_busy (s : State) : (leaveError s).busy = false := rfl
@[simp] theorem leaveError_ready (s : State) : (leaveError s).ready = s.ready := forgetFilled_ready s
@[simp] theorem leaveError_bufValid (s : State) : (leaveError s).bufValid = s.bufValid := forgetFilled_bufValid s
@[simp] theorem leaveError_csdValid (s : State) : (leaveError s).csdValid = s.csdValid := forgetFilled_csdValid s
@[simp] theorem leaveError_capValid (s : State) : (leaveError s).capValid = s.capValid := forgetFilled_capValid s
@[simp] theorem leaveError_hostViolation (s : State) : (leaveError s).hostViolation = s.hostViolation := forgetFilled_hostViolation s
@[simp] theorem leaveError_refusalMark (s : State) : (leaveError s).refusalMark = s.refusalMark := forgetFilled_refusalMark s
@[simp] theorem leaveError_err (s : State) : (leaveError s).err = s.err := forgetFilled_err s
@[simp] theorem leaveError_errCause (s : State) : (leaveError s).errCause = s.errCause := forgetFilled_errCause s
@[simp] theorem leaveError_errSite (s : State) : (leaveError s).errSite = s.errSite := forgetFilled_errSite s
@[simp] theorem leaveError_errState (s : State) : (leaveError s).errState = s.errState := forgetFilled_errState s
@[simp] theorem leaveError_seqState (s : State) : (leaveError s).seqState = (if s.ready then .ready else .uninit) := rfl
@[simp] theorem leaveError_phase (s : State) : (leaveError s).phase = .idle := rfl
@[simp] theorem leaveError_opLat (s : State) : (leaveError s).opLat = s.opLat := forgetFilled_opLat s
@[simp] theorem leaveError_aLat (s : State) : (leaveError s).aLat = s.aLat := forgetFilled_aLat s
@[simp] theorem leaveError_mem (s : State) : (leaveError s).mem = (forgetFilled s).mem := rfl
@[simp] theorem leaveError_trace (s : State) : (leaveError s).trace = s.trace := forgetFilled_trace s
@[simp] theorem leaveError_card (s : State) : (leaveError s).card = s.card := forgetFilled_card s
@[simp] theorem leaveError_draws (s : State) : (leaveError s).draws = s.draws := forgetFilled_draws s
@[simp] theorem leaveError_program (s : State) : (leaveError s).program = s.program := forgetFilled_program s
@[simp] theorem leaveError_hpc (s : State) : (leaveError s).hpc = s.hpc := forgetFilled_hpc s
@[simp] theorem leaveError_turns (s : State) : (leaveError s).turns = s.turns := forgetFilled_turns s
@[simp] theorem leaveError_replies (s : State) : (leaveError s).replies = s.replies := forgetFilled_replies s

/-! ### OPCOND_ATTEMPTS -/

/-- OPCOND_ATTEMPTS reads the attempt count alone. -/
theorem opcondAttempts_congr {s t : State} (h : t.attempts = s.attempts) : t.opcondAttempts = s.opcondAttempts := by
  rw [State.opcondAttempts, h, State.opcondAttempts]

/-- OPCOND_ATTEMPTS is the attempt count wherever 32 bits hold it (R108, R133). -/
theorem opcondAttempts_toNat {s : State} (h : s.attempts < 2 ^ 32) : s.opcondAttempts.toNat = s.attempts := by
  rw [State.opcondAttempts, BitVec.toNat_ofNat, Nat.mod_eq_of_lt h]

end Sys2Proof.Machine
end

