-- ==== Sys2Proof/Laws/Memory.lean ====
section
/-! SUPPORT. The laws of the buffers' bytes: read after write, read after forget, and that every operation keeps the
canonical form and the windows. -/

namespace Sys2Proof.Machine

theorem memory_read_write_same (m : Memory) (a : Nat) (b : Byte) : (m.write a b).read a = some b := by
  induction m with
  | nil => simp [Memory.write, Memory.read]
  | cons c rest ih =>
    unfold Memory.write
    split
    · simp [Memory.read]
    · split
      · simp [Memory.read]
      · next h₁ h₂ => simpa [Memory.read, Ne.symm h₂] using ih

theorem memory_read_write_other (m : Memory) {a x : Nat} (b : Byte) (h : x ≠ a) :
    (m.write a b).read x = m.read x := by
  induction m with
  | nil => simp [Memory.write, Memory.read, Ne.symm h]
  | cons c rest ih =>
    unfold Memory.write
    split
    · simp [Memory.read, Ne.symm h]
    · split
      · next h₂ => simp [Memory.read, ← h₂, Ne.symm h]
      · simp only [Memory.read, ih]

theorem memory_mem_write {m : Memory} {a : Nat} {b : Byte} {c : Host.Cell} (h : c ∈ m.write a b) :
    c = (a, b) ∨ c ∈ m := by
  induction m with
  | nil => simpa [Memory.write] using h
  | cons d rest ih =>
    unfold Memory.write at h
    split at h
    · simpa using h
    · split at h
      · simp only [List.mem_cons] at h ⊢
        exact h.imp_right Or.inr
      · simp only [List.mem_cons] at h ⊢
        rcases h with h | h
        · exact .inr (.inl h)
        · exact (ih h).imp_right Or.inr

/-- A write keeps the canonical form. -/
theorem memory_write_wf {m : Memory} (a : Nat) (b : Byte) (h : m.wf) : (m.write a b).wf := by
  induction m with
  | nil => simp [Memory.write]
  | cons c rest ih =>
    have hc := List.pairwise_cons.mp h
    unfold Memory.write
    split
    · next hlt =>
      refine List.pairwise_cons.mpr ⟨fun d hd => ?_, h⟩
      rcases List.mem_cons.mp hd with rfl | hd
      · exact hlt
      · exact Nat.lt_trans hlt (hc.1 d hd)
    · split
      · next heq => exact List.pairwise_cons.mpr ⟨fun d hd => by simpa [heq] using hc.1 d hd, hc.2⟩
      · next hnl hne =>
        refine List.pairwise_cons.mpr ⟨fun d hd => ?_, ih hc.2⟩
        rcases memory_mem_write hd with rfl | hd
        · show c.1 < a; omega
        · exact hc.1 d hd

/-- Forgetting keeps the canonical form. -/
theorem memory_forget_wf {m : Memory} (base n : Nat) (h : m.wf) : (m.forget base n).wf :=
  List.Pairwise.filter _ h

theorem memory_read_forget_inside (m : Memory) {base n a : Nat} (h₁ : base ≤ a) (h₂ : a < base + n) :
    (m.forget base n).read a = none := by
  induction m with
  | nil => rfl
  | cons c rest ih =>
    by_cases hc : c.1 < base ∨ base + n ≤ c.1
    · have hne : c.1 ≠ a := by omega
      simpa [Memory.forget, hc, Memory.read, hne] using ih
    · simpa [Memory.forget, hc] using ih

theorem memory_read_forget_outside (m : Memory) {base n a : Nat} (h : a < base ∨ base + n ≤ a) :
    (m.forget base n).read a = m.read a := by
  induction m with
  | nil => rfl
  | cons c rest ih =>
    by_cases hc : c.1 < base ∨ base + n ≤ c.1
    · simp only [Memory.forget, List.filter_cons, hc, decide_true, if_true, Memory.read]
      split
      · rfl
      · exact ih
    · have hne : c.1 ≠ a := by omega
      simpa [Memory.forget, hc, Memory.read, hne] using ih

theorem memory_write_inWindows {m : Memory} {a : Nat} (b : Byte) (h : m.inWindows)
    (ha : (csdBase ≤ a ∧ a < csdBase + csdSize) ∨ (bufBase ≤ a ∧ a < bufBase + bufSize)) :
    (m.write a b).inWindows := by
  intro c hc
  rcases memory_mem_write hc with rfl | hc
  · exact ha
  · exact h c hc

theorem memory_forget_inWindows {m : Memory} (base n : Nat) (h : m.inWindows) : (m.forget base n).inWindows :=
  fun c hc => h c (List.mem_of_mem_filter hc)

/-- A byte that holds a value goes on holding one when another byte, or itself, is written. -/
theorem memory_write_keeps_value {m : Memory} {x : Nat} (a : Nat) (b : Byte) (h : (m.read x).isSome = true) :
    ((m.write a b).read x).isSome = true := by
  by_cases hx : x = a
  · subst hx; simp [memory_read_write_same]
  · rwa [memory_read_write_other m b hx]

theorem memory_write_holds {m : Memory} {base n : Nat} (a : Nat) (b : Byte) (h : m.holds base n) :
    (m.write a b).holds base n :=
  fun i hi => memory_write_keeps_value a b (h i hi)

/-- One more byte of a buffer is filled. -/
theorem memory_write_holds_succ {m : Memory} {base i : Nat} (b : Byte) (h : m.holds base i) :
    (m.write (base + i) b).holds base (i + 1) := by
  intro j hj
  by_cases hji : j = i
  · subst hji; simp [memory_read_write_same]
  · exact memory_write_keeps_value _ b (h j (by omega))

theorem memory_forget_holds {m : Memory} {base n lo k : Nat} (h : m.holds base n)
    (hd : base + n ≤ lo ∨ lo + k ≤ base) : (m.forget lo k).holds base n := by
  intro i hi
  rw [memory_read_forget_outside m (by omega)]
  exact h i hi

/-- The empty memory holds nothing and has the form. -/
theorem memory_nil_wf : Memory.wf [] := List.Pairwise.nil

theorem memory_nil_inWindows : Memory.inWindows [] := fun _ h => absurd h List.not_mem_nil

end Sys2Proof.Machine
end

