-- ==== Sys2Proof/Laws/Ops.lean ====
section
/-! SUPPORT. One lemma per shared operation of Machine/Ops.lean and Machine/Sequencer.lean: everything it can do. -/

namespace Sys2Proof.Machine

/-! ### Exchanges -/

theorem spiXfer_answer {o : Byte} {use : Byte → State → State} {s : State} {b : Byte} (h : cardReply s = some b) :
    spiXfer o use s = use b (exchange o s) := by
  simp [spiXfer, h]

theorem spiXfer_failure {o : Byte} {use : Byte → State → State} {s : State} (h : cardReply s = none) :
    spiXfer o use s = raise .busError (exchange o s) := by
  simp [spiXfer, h]

/-- An exchange goes on with the card's byte, or raises BusError; either way the exchange is recorded first. -/
theorem spiXfer_cases (o : Byte) (use : Byte → State → State) (s : State) :
    (∃ b, cardReply s = some b ∧ spiXfer o use s = use b (exchange o s)) ∨
    (cardReply s = none ∧ spiXfer o use s = raise .busError (exchange o s)) := by
  cases h : cardReply s with
  | some b => exact .inl ⟨b, rfl, spiXfer_answer h⟩
  | none => exact .inr ⟨rfl, spiXfer_failure h⟩

theorem sendByte_answer {o : Byte} {next : State → State} {s : State} {b : Byte} (h : cardReply s = some b) :
    sendByte o next s = next (exchange o s) := spiXfer_answer h

theorem sendByte_failure {o : Byte} {next : State → State} {s : State} (h : cardReply s = none) :
    sendByte o next s = raise .busError (exchange o s) := spiXfer_failure h

theorem sendByte_cases (o : Byte) (next : State → State) (s : State) :
    sendByte o next s = next (exchange o s) ∨ sendByte o next s = raise .busError (exchange o s) := by
  rcases spiXfer_cases o (fun _ t => next t) s with ⟨_, _, h⟩ | ⟨_, h⟩
  · exact .inl h
  · exact .inr h

/-- The next listed answer is the card's reply. -/
theorem cardReply_cons {s : State} {a : Option Byte} {rest : List (Option Byte)} (h : s.card = a :: rest) :
    cardReply s = a := by
  simp [cardReply, h]

/-- What a poll's byte does (R441). -/
theorem poll_cases (hit : Byte → Bool) (limit : Nat) (site : ErrSite) (k : Nat) (again : Nat → Phase)
    (found : Byte → State → State) (s : State) :
    (∃ b, cardReply s = some b ∧ hit b = true ∧
      poll hit limit site k again found s = found b (exchange dummyByte s)) ∨
    (∃ b, cardReply s = some b ∧ hit b = false ∧ k < limit ∧
      poll hit limit site k again found s = { exchange dummyByte s with phase := again (k + 1) }) ∨
    (∃ b, cardReply s = some b ∧ hit b = false ∧ ¬ k < limit ∧
      poll hit limit site k again found s = raise (.deviceNotResponding site) (exchange dummyByte s)) ∨
    (cardReply s = none ∧ poll hit limit site k again found s = raise .busError (exchange dummyByte s)) := by
  unfold poll
  cases h : cardReply s with
  | none => exact .inr (.inr (.inr ⟨rfl, spiXfer_failure h⟩))
  | some b =>
    rw [spiXfer_answer h]
    cases hb : hit b with
    | true => exact .inl ⟨b, rfl, hb, by simp⟩
    | false =>
      by_cases hk : k < limit
      · exact .inr (.inl ⟨b, rfl, hb, hk, by simp [hk]⟩)
      · exact .inr (.inr (.inl ⟨b, rfl, hb, hk, by simp [hk]⟩))

/-! ### Loops -/

theorem nextIteration_cases (k n : Nat) (again : Nat → Phase) (done : State → State) (s : State) :
    (k < n ∧ nextIteration k n again done s = { s with phase := again (k + 1) }) ∨
    (n ≤ k ∧ nextIteration k n again done s = done s) := by
  unfold nextIteration
  split
  · next h => exact .inl ⟨h, rfl⟩
  · next h => exact .inr ⟨Nat.le_of_not_lt h, rfl⟩

theorem enterLoop_cases (n : Nat) (first : Phase) (done : State → State) (s : State) :
    (0 < n ∧ enterLoop n first done s = { s with phase := first }) ∨ (n = 0 ∧ enterLoop n first done s = done s) := by
  unfold enterLoop
  split
  · next h => exact .inr ⟨h, rfl⟩
  · next h => exact .inl ⟨Nat.pos_of_ne_zero h, rfl⟩

/-! ### Errors -/

theorem raise_selected {e : Error} {s : State} (h : s.csN = false) :
    raise e s = { recordError e s with phase := .errorExit } := by
  simp [raise, h]

theorem raise_deselected {e : Error} {s : State} (h : s.csN = true) :
    raise e s = leaveError (recordError e s) := by
  simp [raise, h]

/-- Raising an error leaves the configuration, the outputs, the results and the trace alone. -/
theorem raise_frame (e : Error) (s : State) :
    (raise e s).cfg = s.cfg ∧ (raise e s).csN = s.csN ∧ (raise e s).clkSel = s.clkSel ∧ (raise e s).r1 = s.r1 ∧
    (raise e s).r7 = s.r7 ∧ (raise e s).ocr = s.ocr ∧ (raise e s).dresp = s.dresp ∧ (raise e s).csize = s.csize ∧
    (raise e s).capKib = s.capKib ∧ (raise e s).attempts = s.attempts ∧ (raise e s).addr = s.addr ∧
    (raise e s).ready = s.ready ∧ (raise e s).bufValid = s.bufValid ∧ (raise e s).csdValid = s.csdValid ∧
    (raise e s).capValid = s.capValid ∧ (raise e s).hostViolation = s.hostViolation ∧
    (raise e s).refusalMark = s.refusalMark ∧ (raise e s).opLat = s.opLat ∧
    (raise e s).aLat = s.aLat ∧ (raise e s).trace = s.trace ∧ (raise e s).card = s.card ∧
    (raise e s).draws = s.draws ∧ (raise e s).program = s.program ∧ (raise e s).hpc = s.hpc ∧
    (raise e s).turns = s.turns ∧ (raise e s).replies = s.replies := by
  cases h : s.csN with
  | true => simp [raise_deselected h, h]
  | false => simp [raise_selected h, h]

theorem raise_errorFields (e : Error) (s : State) :
    (raise e s).err = (if s.opLat = opInit then .initializationFailed else e.code) ∧
    (raise e s).errCause = (if s.opLat = opInit then e.innerCause else e.cause) ∧
    (raise e s).errSite = e.site ∧ (raise e s).errState = s.seqState := by
  cases h : s.csN with
  | true => simp [raise_deselected h]
  | false => simp [raise_selected h]

@[simp] theorem raise_trace (e : Error) (s : State) : (raise e s).trace = s.trace := by
  cases h : s.csN <;> simp [raise, h]

@[simp] theorem raise_csN (e : Error) (s : State) : (raise e s).csN = s.csN := by
  cases h : s.csN <;> simp [raise, h]

@[simp] theorem raise_clkSel (e : Error) (s : State) : (raise e s).clkSel = s.clkSel := by
  cases h : s.csN <;> simp [raise, h]

@[simp] theorem raise_cfg (e : Error) (s : State) : (raise e s).cfg = s.cfg := by
  cases h : s.csN <;> simp [raise, h]

/-! ### The attempt count -/

/-- Counting an attempt adds one to the count and changes nothing else. -/
theorem countAttempt_eq (s : State) : countAttempt s = { s with attempts := s.attempts + 1 } := rfl

/-- OPCOND_ATTEMPTS grows by one with the attempt (R108, R471). -/
theorem countAttempt_opcondAttempts (s : State) : (countAttempt s).opcondAttempts = s.opcondAttempts + 1 := by
  simp [State.opcondAttempts, countAttempt, BitVec.ofNat_add]

/-! ### Requests -/

/-- What presenting a request does (R611, R620, R622). -/
theorem present_cases (op : Byte) (needsReady : Bool) (start : State → State) (s : State) :
    (s.busy = true ∧ present op needsReady start s = violation s) ∨
    (s.busy = false ∧ s.ready = needsReady ∧ present op needsReady start s = start (accept op s)) ∨
    (s.busy = false ∧ s.ready ≠ needsReady ∧
      present op needsReady start s = refuse (if needsReady then .notInitialized else .alreadyInitialized) s) := by
  unfold present
  cases hb : s.busy with
  | true => simp
  | false => by_cases hr : s.ready = needsReady <;> simp [hr]

/-! ### exec -/

/-- No instruction stops the machine. -/
theorem exec_next (i : Instr) (s : State) : ∃ t, exec i s = .next t := by
  cases i <;> exact ⟨_, rfl⟩

/-- The meaning of every frame is one shared operation: the command's assembled frame starts to be sent. -/
theorem exec_frame (c : Cmd) (a : Word) (s : State) :
    exec (c.instr a) s =
      .next (sendFrame c (assembleFrame s.cfg.frameCrc c.index (c.argument a)) s) := by
  cases c <;> rfl

end Sys2Proof.Machine
end

