-- ==== Sys2Proof/Laws/Step.lean ====
section
/-! SUPPORT. What one step can do, said once: the inversion lemmas of step and of the moves it is made of. -/

namespace Sys2Proof.Machine

/-- A frame that decodes is one of the eight commands (R305). -/
theorem decodeFrame_ok {f : FrameWord} {i : Instr} (h : decodeFrame f = .ok i) :
    ∃ (c : Cmd) (a : Word), i = c.instr a := by
  unfold decodeFrame fixedArgument at h
  dsimp only at h
  repeat' split at h
  all_goals first
    | contradiction
    | (obtain rfl := Except.ok.inj h
       first
         | exact ⟨.cmd0, 0, rfl⟩ | exact ⟨.cmd8, 0, rfl⟩ | exact ⟨.cmd55, 0, rfl⟩ | exact ⟨.acmd41, 0, rfl⟩
         | exact ⟨.cmd17, _, rfl⟩ | exact ⟨.cmd24, _, rfl⟩ | exact ⟨.cmd58, 0, rfl⟩ | exact ⟨.cmd9, 0, rfl⟩)

/-- A frame that decodes starts with its command's own first byte, 0x40 and the index (R302). -/
theorem decodeFrame_firstByte {f : FrameWord} {c : Cmd} {a : Word} (crc : FrameCrc)
    (h : decodeFrame f = .ok (c.instr a)) :
    frameByte (assembleFrame crc c.index (c.argument a)) 0 = frameByte f 0 := by
  have hs : f.extractLsb' 46 2 = 0b01#2 := by
    unfold decodeFrame at h
    split at h
    · cases h
    · next h1 => simpa using h1
  have hi : f.extractLsb' 40 6 = c.index := by
    unfold decodeFrame fixedArgument at h
    dsimp only at h
    repeat' split at h
    all_goals first
      | cases h
      | skip
    all_goals (have h := Except.ok.inj h; cases c <;> simp [Cmd.instr] at h <;> simpa [Cmd.index])
  have e1 := assembleFrame_start crc c.index (c.argument a)
  have e2 := assembleFrame_index crc c.index (c.argument a)
  apply BitVec.eq_of_getLsbD_eq
  intro i hi8
  simp only [frameByte, BitVec.getLsbD_extractLsb', hi8, decide_true, Bool.true_and]
  by_cases h6 : i < 6
  · have := congrArg (·.getLsbD i) (e2.trans hi.symm)
    simpa [BitVec.getLsbD_extractLsb', h6] using this
  · have := congrArg (·.getLsbD (i - 6)) (e1.trans hs.symm)
    have h2 : i - 6 < 2 := by omega
    have h3 : 46 + (i - 6) = 40 + i := by omega
    simpa [BitVec.getLsbD_extractLsb', h2, h3] using this

/-- An opcode that decodes is that of one of the five requests (R321). -/
theorem decodeOpcode_ok {op : Byte} {i : Instr} (h : decodeOpcode op = .ok i) :
    (op = opInit ∧ i = .init) ∨ (op = opReadBlock ∧ i = .readBlock) ∨ (op = opWriteBlock ∧ i = .writeBlock) ∨
    (op = opReadCsd ∧ i = .readCsd) ∨ (op = opGetCapacity ∧ i = .getCapacity) := by
  unfold decodeOpcode at h
  repeat' split at h
  all_goals first
    | contradiction
    | (obtain rfl := Except.ok.inj h; simp_all)

/-- What a request word comes to: a request presented, or a reserved opcode. It always answers a next state. -/
theorem runRequest_cases {v : Word} {s t : State} (h : runRequest v s = .next t) :
    (t = present opInit false startInit s ∨ t = present opReadBlock true startReadBlock s ∨
      t = present opWriteBlock true startWriteBlock s ∨ t = present opReadCsd true startReadCsd s ∨
      t = present opGetCapacity true startGetCapacity s) ∨
    t = presentReserved s := by
  unfold runRequest at h
  split at h
  · next i hi =>
    rcases decodeOpcode_ok hi with ⟨-, rfl⟩ | ⟨-, rfl⟩ | ⟨-, rfl⟩ | ⟨-, rfl⟩ | ⟨-, rfl⟩ <;>
      (obtain rfl := Host.Outcome.next.inj h; simp)
  · exact .inr (Host.Outcome.next.inj h).symm

/-- The controller's move: an assembled frame starts to be sent, or the sequencer takes its step. -/
theorem controllerTurn_cases {s t : State} (h : controllerTurn s = .next t) :
    (∃ f c a, s.phase = .issue f ∧ decodeFrame f = .ok (c.instr a) ∧
      t = sendFrame c (assembleFrame s.cfg.frameCrc c.index (c.argument a)) s) ∨
    ((∀ f, s.phase ≠ .issue f) ∧ t = seqStep s) := by
  unfold controllerTurn controllerMove at h
  cases hp : s.phase
  case issue f =>
    simp only [hp, runFrame] at h
    split at h
    · next i hi =>
      obtain ⟨c, a, rfl⟩ := decodeFrame_ok hi
      rw [exec_frame] at h
      exact .inl ⟨f, c, a, rfl, hi, (Host.Outcome.next.inj h).symm⟩
    · exact absurd h (by simp)
  all_goals
    simp only [hp] at h
    exact .inr ⟨by simp, (Host.Outcome.next.inj h).symm⟩

/-- A step of a run without a host violation is what the hardware, its host and its platform do next. -/
theorem step_unmarked {s : State} (h : s.refusalMark = false) : step s = advance s := by
  simp [step, h]

/-- A step that answers a next state: the run carries no refusal mark. -/
theorem advance_of_step {s t : State} (h : step s = .next t) : s.refusalMark = false ∧ advance s = .next t := by
  unfold step at h
  split at h
  · cases h
  · next hm => exact ⟨by simpa using hm, h⟩

/-- What the hardware, its host and its platform can do next. -/
theorem advance_cases {s t : State} (h : advance s = .next t) :
    (whoMoves s = .platformReset ∧ t = platformReset (takeTurn s)) ∨
    (whoMoves s = .host ∧ (hostMove (takeTurn s) = .done t ∨
      ∃ v u, hostMove (takeTurn s) = .request v u ∧ runRequest v u = .next t)) ∨
    (whoMoves s = .controller ∧
      ((∃ f c a, s.phase = .issue f ∧ decodeFrame f = .ok (c.instr a) ∧
          t = sendFrame c (assembleFrame s.cfg.frameCrc c.index (c.argument a)) (takeTurn s)) ∨
       ((∀ f, s.phase ≠ .issue f) ∧ t = seqStep (takeTurn s)))) := by
  unfold advance at h
  cases hw : whoMoves s with
  | platformReset =>
    simp only [hw] at h
    exact .inl ⟨rfl, (Host.Outcome.next.inj h).symm⟩
  | host =>
    simp only [hw, hostTurn] at h
    refine .inr (.inl ⟨rfl, ?_⟩)
    cases hm : hostMove (takeTurn s) with
    | done u => simp only [hm] at h; exact .inl (by rw [Host.Outcome.next.inj h])
    | request v u => simp only [hm] at h; exact .inr ⟨v, u, rfl, h⟩
  | controller =>
    simp only [hw] at h
    exact .inr (.inr ⟨rfl, by simpa using controllerTurn_cases h⟩)

/-- What one step can do. -/
theorem step_cases {s t : State} (h : step s = .next t) :
    (whoMoves s = .platformReset ∧ t = platformReset (takeTurn s)) ∨
    (whoMoves s = .host ∧ (hostMove (takeTurn s) = .done t ∨
      ∃ v u, hostMove (takeTurn s) = .request v u ∧ runRequest v u = .next t)) ∨
    (whoMoves s = .controller ∧
      ((∃ f c a, s.phase = .issue f ∧ decodeFrame f = .ok (c.instr a) ∧
          t = sendFrame c (assembleFrame s.cfg.frameCrc c.index (c.argument a)) (takeTurn s)) ∨
       ((∀ f, s.phase ≠ .issue f) ∧ t = seqStep (takeTurn s)))) :=
  advance_cases (advance_of_step h).2

end Sys2Proof.Machine
end

