-- ==== Sys2Proof/Laws/Invariant.lean ====
section
/-! SUPPORT. How the shared operations keep the invariant of the control state: one lemma an operation. -/

namespace Sys2Proof.Machine

/-- The part of the invariant that a request running without an error keeps, whatever its phase: what every operation
of the sequencer may rely on. -/
structure Running (s : State) : Prop where
  cfg_ok : s.cfg.wf = true
  mem_ok : s.mem.wf
  mem_windows : s.mem.inWindows
  clock : s.clkSel = .fast ↔ (s.ready = true ∧ s.cfg.raiseClock = true)
  att : attemptsOk s
  err : s.err = .none
  ef : errorFieldsOk s
  busy : s.busy = true
  mark : s.hostViolation = true → s.refusalMark = true

/-- A running request's state, taken from the invariant. -/
theorem running_of_inv {s} (h : Inv s) (hp : s.phase ≠ .idle) (he : s.phase ≠ .errorExit) : Running s := by
  have hb := h.busy_iff.2 hp
  exact ⟨h.cfg_ok, h.mem_ok, h.mem_windows, h.clock, h.attempts hb, h.no_error_yet hb he, h.error_fields, hb, h.mark⟩

/-- The invariant, put together again at a new phase. -/
theorem inv_of_running {s} (b : Running s) (p : positionOk s) (l : s.csN = phaseLevel s.phase) (hp : s.phase ≠ .idle) :
    Inv s :=
  ⟨b.cfg_ok, b.mem_ok, b.mem_windows, by simp [b.busy, hp], p, l, b.clock, fun _ => b.att, fun _ _ => b.err, b.ef, b.mark⟩

/-- The running part depends on these fields alone. -/
theorem running_congr {s t : State} (b : Running s) (h1 : t.cfg = s.cfg) (h2 : t.mem = s.mem) (h3 : t.clkSel = s.clkSel) (h4 : t.ready = s.ready) (h5 : t.attempts = s.attempts) (h6 : t.seqState = s.seqState) (h7 : t.err = s.err) (h8 : t.errCause = s.errCause) (h9 : t.errSite = s.errSite) (h10 : t.errState = s.errState) (h11 : t.busy = s.busy) (h12 : t.hostViolation = s.hostViolation) (h13 : t.refusalMark = s.refusalMark) : Running t := by
  obtain ⟨a1,a2,a3,a4,a5,a6,a7,a8,a9⟩ := b
  constructor
  · rwa [h1]
  · rwa [h2]
  · rwa [h2]
  · rw [h3,h4,h1]; exact a4
  · unfold attemptsOk at *; rw [h6,h5,h1]; exact a5
  · rw [h7]; exact a6
  · unfold errorFieldsOk at *; rw [h7,h8,h9,h10]; exact a7
  · rw [h11]; exact a8
  · rw [h12, h13]; exact a9

/-- The errors that may be raised in a request: the sites of INIT and of the others differ, WriteRejected is
WRITE_BLOCK's and UnexpectedResponse INIT's (R603, R607, R608). -/
def errorAllowed (e : Error) (s : State) : Prop :=
  match e with
  | .busError => True
  | .deviceNotResponding site => (s.opLat = opInit ∧ (site = .r1Poll ∨ site = .opcondRetry)) ∨ (s.opLat ≠ opInit ∧ (site = .tokenPoll ∨ site = .drespPoll ∨ site = .busyPoll))
  | .writeRejected _ => s.opLat ≠ opInit
  | .unexpectedResponse => s.opLat = opInit

/-- The ERR fields an allowed error leaves are those of the table. -/
theorem recordError_errorFieldsOk (e s) (h : errorAllowed e s) : errorFieldsOk (recordError e s) := by
  unfold errorFieldsOk
  cases e with
  | busError => by_cases hi : s.opLat = opInit <;> simp [hi, Error.code, Error.cause, Error.innerCause, Error.site]
  | deviceNotResponding site => rcases h with ⟨hi, h⟩ | ⟨hi, h⟩ <;> simp [hi, h, Error.code, Error.cause, Error.innerCause, Error.site]
  | writeRejected d =>
    have hi : s.opLat ≠ opInit := h
    simp [hi, Error.code, Error.cause, Error.site, rejectCause]
    by_cases q1 : d &&& 0x1F#8 = 0x0B#8 <;> by_cases q2 : d &&& 0x1F#8 = 0x0D#8 <;> simp_all
  | unexpectedResponse =>
    have hi : s.opLat = opInit := h
    simp [hi, Error.innerCause, Error.site]

/-- An error is recorded: ERR is no longer 0. -/
theorem recordError_err_ne_none (e s) : (recordError e s).err ≠ .none := by
  by_cases hi : s.opLat = opInit <;> cases e <;> simp [hi, Error.code]

theorem forgetFilled_wf (s : State) (h : s.mem.wf) : (forgetFilled s).mem.wf := by
  unfold forgetFilled; split
  · exact memory_forget_wf _ _ h
  · split
    · exact memory_forget_wf _ _ h
    · exact h

theorem forgetFilled_inWindows (s : State) (h : s.mem.inWindows) : (forgetFilled s).mem.inWindows := by
  unfold forgetFilled; split
  · exact memory_forget_inWindows _ _ h
  · split
    · exact memory_forget_inWindows _ _ h
    · exact h

/-- The end of the error exit gives an idle state that meets the invariant. -/
theorem leaveError_inv {s : State} (h1 : s.cfg.wf = true) (h2 : s.mem.wf) (h3 : s.mem.inWindows)
   (h4 : s.clkSel = .fast ↔ (s.ready = true ∧ s.cfg.raiseClock = true)) (h5 : errorFieldsOk s) (h6 : s.csN = true)
    (h7 : s.hostViolation = true → s.refusalMark = true) : Inv (leaveError s) := by
  have hp : positionOk (leaveError s) := by simp [positionOk]
  constructor
  · simpa
  · simpa using forgetFilled_wf s h2
  · simpa using forgetFilled_inWindows s h3
  · simp
  · exact hp
  · simpa [phaseLevel] using h6
  · simpa using h4
  · simp
  · simp
  · simpa [errorFieldsOk] using h5
  · simpa using h7

/-- Raising an allowed error keeps the invariant: the exit is complete at once with the card deselected, else its
`CsSet(1)` is next. -/
theorem raise_inv {e s} (b : Running s) (he : errorAllowed e s) (hc : s.csN = false → ∃ c, inTxn s c) : Inv (raise e s) := by
  cases h : s.csN with
  | true =>
    rw [raise_deselected h]
    exact leaveError_inv (by simpa using b.cfg_ok) (by simpa using b.mem_ok) (by simpa using b.mem_windows) (by simpa using b.clock) (recordError_errorFieldsOk e s he) (by simpa using h) (by simpa using b.mark)
  | false =>
    rw [raise_selected h]
    obtain ⟨c, hx⟩ := hc h
    constructor
    · exact b.cfg_ok
    · exact b.mem_ok
    · exact b.mem_windows
    · simp [b.busy]
    · exact ⟨⟨c, hx⟩, recordError_err_ne_none e s⟩
    · simpa [phaseLevel] using h
    · exact b.clock
    · intro _; exact b.att
    · simp
    · exact recordError_errorFieldsOk e s he
    · exact b.mark

theorem exchange_running {s o} (b : Running s) : Running (exchange o s) := running_congr b rfl rfl rfl rfl rfl rfl rfl rfl rfl rfl rfl rfl rfl

theorem csSet_running {s l} (b : Running s) : Running (csSet l s) := running_congr b rfl rfl rfl rfl rfl rfl rfl rfl rfl rfl rfl rfl rfl

theorem phase_running {s : State} {p} (b : Running s) : Running { s with phase := p } := running_congr b rfl rfl rfl rfl rfl rfl rfl rfl rfl rfl rfl rfl rfl

theorem takeTurn_running {s : State} (b : Running s) : Running (takeTurn s) := running_congr b rfl rfl rfl rfl rfl rfl rfl rfl rfl rfl rfl rfl rfl

theorem inTxn_not_init {s c} (h : inTxn s c) (hc : cmdOfInit c = false) : s.opLat ≠ opInit := by
  have := h.2.1
  cases c <;> simp [cmdOfInit, cmdSentBy] at * <;> simp_all [opInit, opReadBlock, opWriteBlock, opReadCsd, opGetCapacity]
  rcases this with h | h <;> simp [h]

theorem inTxn_init {s c} (h : inTxn s c) (hc : cmdOfInit c = true) : s.opLat = opInit ∧ s.ready = false := by
  have := h.2
  cases c <;> simp_all [cmdOfInit, cmdSentBy]

/-- The end of a successful request gives an idle state that meets the invariant. -/
theorem complete_inv {s} (b : Running s) (hr : s.ready = true) (hc : s.csN = true) : Inv (complete s) := by
  constructor
  · exact b.cfg_ok
  · exact b.mem_ok
  · exact b.mem_windows
  · simp
  · simp [positionOk, hr]
  · simpa [phaseLevel]
  · exact b.clock
  · simp
  · simp
  · exact b.ef
  · exact b.mark

/-- The end of a successful INIT does too, the clock as R479 leaves it. -/
theorem completeInit_inv {s : State} (b : Running { s with clkSel := .slow }) (hc : s.csN = true) (hk : s.clkSel = .fast ↔ s.cfg.raiseClock = true) : Inv (completeInit s) := by
  constructor
  · exact b.cfg_ok
  · exact b.mem_ok
  · exact b.mem_windows
  · simp
  · simp [positionOk]
  · simpa [phaseLevel]
  · simpa using hk
  · simp
  · simp
  · exact b.ef
  · exact b.mark

/-- Whatever a transaction's end leads to keeps the invariant. -/
theorem endTxn_inv {c r s} (b : Running s) (h : inTxn s c) (hc : s.csN = true) : Inv (endTxn c r s) := by
  have bs : ∀ r, Running (storeR1 r s) := fun r => by
    cases r <;> [exact b; exact running_congr b rfl rfl rfl rfl rfl rfl rfl rfl rfl rfl rfl rfl rfl]
  have hsr : ∀ r, (storeR1 r s).seqState = s.seqState ∧ (storeR1 r s).opLat = s.opLat ∧ (storeR1 r s).ready = s.ready ∧ (storeR1 r s).csN = s.csN ∧ (storeR1 r s).cfg = s.cfg ∧ (storeR1 r s).attempts = s.attempts := fun r => by
    cases r <;> simp [storeR1]
  cases c with
  | cmd0 =>
    obtain ⟨hi, hr⟩ := inTxn_init h rfl
    simp only [endTxn]
    generalize hs : storeR1 r s = t
    have := hsr r; have b := bs r; rw [hs] at this b
    obtain ⟨q1, q2, q3, q4, q5, q6⟩ := this
    unfold afterReset; split
    · exact raise_inv b (by simp [errorAllowed, *]) (by simp [*])
    · apply inv_of_running
      · have := b.att
        constructor <;> try first | exact b.cfg_ok | exact b.mem_ok | exact b.mem_windows | exact b.clock | exact b.err | exact b.ef | exact b.busy | exact b.mark
        have h1 := h.1
        simp [attemptsOk, q1, cmdState, h1] at *
        exact this
      · simp [positionOk, inTxn, startTxn, cmdState, cmdSentBy, q2, hi, q3, hr, cmdOfInit]
      · simp [startTxn, phaseLevel, q4, hc]
      · simp [startTxn]
  | cmd8 =>
    obtain ⟨hi, hr⟩ := inTxn_init h rfl
    simp only [endTxn]
    unfold afterVoltageCheck; split
    · exact raise_inv b (by simp [errorAllowed, *]) (by simp [*])
    · apply inv_of_running
      · have := b.att
        constructor <;> try first | exact b.cfg_ok | exact b.mem_ok | exact b.mem_windows | exact b.clock | exact b.err | exact b.ef | exact b.busy | exact b.mark
        have h1 := h.1
        have hcf := b.cfg_ok
        simp [attemptsOk, cmdState, h1, startTxn, Params.wf] at *
        rw [this]; exact hcf.2
      · simp [positionOk, inTxn, startTxn, cmdState, cmdSentBy, hi, hr, cmdOfInit]
      · simp [startTxn, phaseLevel, hc]
      · simp [startTxn]
  | cmd55 =>
    obtain ⟨hi, hr⟩ := inTxn_init h rfl
    simp only [endTxn]
    generalize hs : storeR1 r s = t
    have := hsr r; have b := bs r; rw [hs] at this b
    obtain ⟨q1, q2, q3, q4, q5, q6⟩ := this
    have ha := b.att
    have h1 := h.1
    simp only [attemptsOk, q1, cmdState, h1] at ha
    unfold afterPrefix
    rw [countAttempt_eq]
    apply inv_of_running
    · constructor <;> try first | exact b.cfg_ok | exact b.mem_ok | exact b.mem_windows | exact b.clock | exact b.err | exact b.ef | exact b.busy | exact b.mark
      simp only [attemptsOk, startTxn]
      omega
    · simp [positionOk, inTxn, startTxn, cmdState, cmdSentBy, q2, hi, q3, hr, cmdOfInit]
    · simp [startTxn, phaseLevel, q4, hc]
    · simp [startTxn]
  | acmd41 =>
    obtain ⟨hi, hr⟩ := inTxn_init h rfl
    simp only [endTxn]
    generalize hs : storeR1 r s = t
    have := hsr r; have b := bs r; rw [hs] at this b
    obtain ⟨q1, q2, q3, q4, q5, q6⟩ := this
    unfold afterOpCond; split
    · split
      · exact raise_inv b (by simp [errorAllowed, *]) (by simp [*])
      · apply inv_of_running
        · have := b.att
          constructor <;> try first | exact b.cfg_ok | exact b.mem_ok | exact b.mem_windows | exact b.clock | exact b.err | exact b.ef | exact b.busy | exact b.mark
          have h1 := h.1
          simp only [attemptsOk, q1, cmdState, h1, startTxn] at *
          omega
        · simp [positionOk, inTxn, startTxn, cmdState, cmdSentBy, q2, hi, q3, hr, cmdOfInit]
        · simp [startTxn, phaseLevel, q4, hc]
        · simp [startTxn]
    · apply inv_of_running
      · have := b.att
        constructor <;> try first | exact b.cfg_ok | exact b.mem_ok | exact b.mem_windows | exact b.clock | exact b.err | exact b.ef | exact b.busy | exact b.mark
        have h1 := h.1
        simp only [attemptsOk, q1, cmdState, h1, startTxn] at *
        omega
      · simp [positionOk, inTxn, startTxn, cmdState, cmdSentBy, q2, hi, q3, hr, cmdOfInit]
      · simp [startTxn, phaseLevel, q4, hc]
      · simp [startTxn]
  | cmd58 =>
    obtain ⟨hi, hr⟩ := inTxn_init h rfl
    have hk : s.clkSel = .slow := by
      have := b.clock; rw [hr] at this; cases hh : s.clkSel <;> simp_all
    simp only [endTxn]
    unfold afterReadOcr; split
    · exact raise_inv b (by simp [errorAllowed, *]) (by simp [*])
    · split
      · exact inv_of_running (phase_running b) (by simp_all [positionOk, inInit, h.1, cmdState]) (by simpa [phaseLevel]) (by simp)
      · exact completeInit_inv (by rw [← hk]; exact b) hc (by simp_all)
  | cmd17 =>
    have hr : s.ready = true := by simpa [cmdOfInit] using h.2.2
    exact complete_inv (s := { s with bufValid := true }) (running_congr b rfl rfl rfl rfl rfl rfl rfl rfl rfl rfl rfl rfl rfl) hr hc
  | cmd24 =>
    have hr : s.ready = true := by simpa [cmdOfInit] using h.2.2
    exact complete_inv b hr hc
  | cmd9 =>
    have hr : s.ready = true := by simpa [cmdOfInit] using h.2.2
    simp only [endTxn, afterCsd]; split
    · exact complete_inv (running_congr b rfl rfl rfl rfl rfl rfl rfl rfl rfl rfl rfl rfl rfl) hr hc
    · exact complete_inv (running_congr b rfl rfl rfl rfl rfl rfl rfl rfl rfl rfl rfl rfl rfl) hr hc

/-- An exchange keeps the invariant if what uses its byte does. -/
theorem spiXfer_inv {o use s} (b : Running s) (hc : s.csN = false → ∃ c, inTxn s c) (hu : ∀ v, Inv (use v (exchange o s))) : Inv (spiXfer o use s) := by
  rcases spiXfer_cases o use s with ⟨v, _, h⟩ | ⟨_, h⟩ <;> rw [h]
  · exact hu v
  · exact raise_inv (exchange_running b) trivial hc

/-- A poll keeps the invariant if its match and its next byte do. -/
theorem poll_inv {hit limit site k again found s} (b : Running s) (hc : s.csN = false → ∃ c, inTxn s c) (he : errorAllowed (.deviceNotResponding site) s)
   (hf : ∀ v, Inv (found v (exchange dummyByte s))) (ha : k < limit → Inv { exchange dummyByte s with phase := again (k+1) }) : Inv (poll hit limit site k again found s) := by
  rcases poll_cases hit limit site k again found s with ⟨v, _, _, h⟩ | ⟨v, _, _, h', h⟩ | ⟨v, _, _, _, h⟩ | ⟨_, h⟩ <;> rw [h]
  · exact hf v
  · exact ha h'
  · exact raise_inv (exchange_running b) he hc
  · exact raise_inv (exchange_running b) trivial hc

/-- The invariant says nothing of the host's fields, ADDR and the draw counter, and of HOST_VIOLATION only that the
refusal mark goes with it. -/
theorem inv_of_host_fields {s t : State} (h : Inv s)
    (h1 : t = { s with
      program := t.program, hpc := t.hpc, turns := t.turns, replies := t.replies, draws := t.draws,
      hostViolation := t.hostViolation, refusalMark := t.refusalMark, addr := t.addr })
    (h2 : t.hostViolation = true → t.refusalMark = true) : Inv t := by
  rw [h1]
  obtain ⟨a1,a2,a3,a4,a5,a6,a7,a8,a9,a10,_⟩ := h
  exact ⟨a1,a2,a3,a4,by
    unfold positionOk at *
    exact a5, a6, a7, a8, a9, a10, h2⟩

/-- A refusal of an idle block keeps the invariant. -/
theorem refuse_inv {c s} (h : Inv s) (hb : s.busy = false) (hc : c = .reservedOp ∨ c = .notInitialized ∨ c = .alreadyInitialized) : Inv (refuse c s) := by
  have hph : s.phase = .idle := by by_contra hh; have := h.busy_iff.2 hh; simp [hb] at this
  obtain ⟨a1,a2,a3,a4,a5,a6,a7,a8,a9,a10,a11⟩ := h
  refine ⟨a1,a2,a3,a4,?_,a6,a7,a8,?_,?_,a11⟩
  · have e : (refuse c s).phase = .idle := hph
    unfold positionOk at *; rw [hph] at a5; rw [e]; exact a5
  · intro h; simp [hb] at h
  · simpa [errorFieldsOk] using hc

/-- The offsets of BUF (R110). -/
theorem placeOf_buf {off} (h : placeOf off = .buf) : 0x200 ≤ off.toNat := by
  by_contra hh
  unfold placeOf csdBase csdSize bufBase at h; dsimp only at h
  split at h
  · split at h <;> contradiction
  · split at h
    · contradiction
    · split at h
      · contradiction
      · rw [if_pos (by omega)] at h; contradiction

/-- This hardware's configuration is one R6 admits, whatever its open parameters are. -/
theorem thisHardware_wf : Config.thisHardware.wf = true := by
  simp only [Params.wf, Bool.and_eq_true, decide_eq_true_eq]
  exact ⟨⟨⟨⟨⟨by decide, by decide⟩, Nat.le_add_left _ _⟩, Nat.le_add_left _ _⟩, Nat.le_add_left _ _⟩,
    Nat.le_add_left _ _⟩

end Sys2Proof.Machine
end

