-- ==== Sys2Proof/Laws/PerInstr.lean ====
section
/-! SUPPORT. The length of an encoding, instruction by instruction: one byte for a request, exactly six for a frame
(spec/30_encoding.md R301, R324). -/

namespace Sys2Proof.Laws.EncodeLength

def Statement (i : Instr) : Prop :=
  ∀ crc : FrameCrc, (encode crc i).length = if i.opcode.isSome then 1 else 6

theorem init : Statement .init := fun _ => rfl
theorem readBlock : Statement .readBlock := fun _ => rfl
theorem writeBlock : Statement .writeBlock := fun _ => rfl
theorem readCsd : Statement .readCsd := fun _ => rfl
theorem getCapacity : Statement .getCapacity := fun _ => rfl
theorem cmd0 : Statement .cmd0 := fun _ => rfl
theorem cmd8 : Statement .cmd8 := fun _ => rfl
theorem cmd55 : Statement .cmd55 := fun _ => rfl
theorem acmd41 : Statement .acmd41 := fun _ => rfl
theorem cmd17 (a : Word) : Statement (.cmd17 a) := fun _ => rfl
theorem cmd24 (a : Word) : Statement (.cmd24 a) := fun _ => rfl
theorem cmd58 : Statement .cmd58 := fun _ => rfl
theorem cmd9 : Statement .cmd9 := fun _ => rfl

end Sys2Proof.Laws.EncodeLength
end

