-- ==== Sys2Proof/Tests/Slice0.lean ====
section
/-! SUPPORT. The model's own tests: the checks of WellFormed, words written out from the spec's encodings, one step of
every instruction with the values of spec/95_test_vectors.md, and for every statement with hypotheses a state that
meets them. -/

namespace Sys2Proof.Tests

open Sys2Proof Sys2Proof.Machine

/-! ### Configuration and states -/

/-- The example configuration EX of R6. -/
def cfg : Params where
  nPowerupDummy := 10
  nPreDummy := 1
  nPostDummy := 1
  frameCrc := Config.defaultFrameCrc
  writeCrc0 := 0xFF
  writeCrc1 := 0xFF
  r1PollLimit := 8
  tokenPollLimit := 8
  drespPollLimit := 8
  busyPollLimit := 8
  opcondRetryLimit := 4
  opcondPolarity := .protocol
  strictInit := false
  nReadTrailer := 0
  writeBusyWait := true
  raiseClock := true

/-- After reset, the registers with no stated reset value at 0. -/
def uninit : State :=
  { State.resetAt cfg 0 with
    r1 := 0, r7 := 0, ocr := 0, dresp := 0, csize := 0, capKib := 0, attempts := 0, addr := 0, opLat := 0,
    aLat := 0 }

/-- The end of V-INIT-1: READY, the clock fast, STATUS = 0x00600022. -/
def ready : State :=
  { uninit with
    ready := true, seqState := .ready, clkSel := .fast, r7 := 0x000001AA, ocr := 0xC0FF8000, attempts := 1,
    opLat := opInit }

/-- A request runs, in the given phase, with the card selected or not. -/
def running (s : State) (op : Byte) (q : SeqState) (p : Phase) (card : List (Option Byte)) : State :=
  { s with busy := true, opLat := op, seqState := q, phase := p, csN := phaseLevel p, card := card }

/-- A READ_BLOCK runs. -/
def reading (p : Phase) (card : List (Option Byte)) : State := running ready opReadBlock .xferReadBlock p card

/-- A WRITE_BLOCK runs. -/
def writing (p : Phase) (card : List (Option Byte)) : State := running ready opWriteBlock .xferWriteBlock p card

/-- A GET_CAPACITY runs. -/
def querying (p : Phase) (card : List (Option Byte)) : State := running ready opGetCapacity .xferReadCsd p card

/-- An INIT runs. -/
def initializing (q : SeqState) (p : Phase) (card : List (Option Byte)) : State := running uninit opInit q p card

/-- The host's turn at one line. -/
def hostAt (s : State) (l : HostLine) : State := { s with program := [l], hpc := 0, turns := [.host] }

/-- The state a step leads to. -/
def next (o : Host.Outcome State Fault Refusal) : State :=
  match o with
  | .next t => t
  | .fault _ => uninit
  | .refused _ => uninit

/-! ### WellFormed -/

theorem test_wf_config : cfg.wf = true := by decide
theorem test_wf_crc_end_bit :
    ({ cfg with frameCrc := { listed := [], other := 0xFE } } : Params).wf = false := by decide
theorem test_wf_crc_listed_end_bit :
    ({ cfg with frameCrc := { listed := [(0, 0x94)], other := 0x01 } } : Params).wf = false := by decide
theorem test_wf_r1_limit : ({ cfg with r1PollLimit := 0 } : Params).wf = false := by decide
theorem test_wf_token_limit : ({ cfg with tokenPollLimit := 0 } : Params).wf = false := by decide
theorem test_wf_dresp_limit : ({ cfg with drespPollLimit := 0 } : Params).wf = false := by decide
theorem test_wf_busy_limit : ({ cfg with busyPollLimit := 0 } : Params).wf = false := by decide
theorem test_wf_retry_limit : ({ cfg with opcondRetryLimit := 0 } : Params).wf = false := by decide
theorem test_wf_retry_limit_wide : ({ cfg with opcondRetryLimit := 4294967296 } : Params).wf = true := by decide
theorem test_wf_branch : hostProgramWf [.waitIdle, .branch 3] = false := by decide
theorem test_wf_berr : hostProgramWf [.berr 2, .halt] = true ∧ hostProgramWf [.berr 3, .halt] = false := by decide

/-! ### Decoding: the words of R301, R305 and R321, bit by bit -/

theorem test_decode_init : decode [0b00000001] = .ok .init := by decide
theorem test_decode_read_block : decode [0b00000010] = .ok .readBlock := by decide
theorem test_decode_write_block : decode [0b00000011] = .ok .writeBlock := by decide
theorem test_decode_read_csd : decode [0b00000100] = .ok .readCsd := by decide
theorem test_decode_get_capacity : decode [0b00000101] = .ok .getCapacity := by decide
/-- R323: the reserved opcodes at the ends of their ranges. -/
theorem test_decode_reserved :
    decode [0x00] = .error .reservedOpcode ∧ decode [0x06] = .error .reservedOpcode ∧
    decode [0xFF] = .error .reservedOpcode := by decide
/-- R111: bits 31:8 of a REQ value are ignored (V-EX-3, V-EX-4). -/
theorem test_decode_request_word :
    decodeRequest 0xABCDEF02 = .ok .readBlock ∧ decodeRequest 0x00000106 = .error .reservedOpcode := by decide

/-- V-FR-1 -/
theorem test_decode_cmd0 : decode [0b01000000, 0, 0, 0, 0, 0b10010101] = .ok .cmd0 := by decide
/-- V-FR-2 -/
theorem test_decode_cmd8 : decode [0b01001000, 0, 0, 0b00000001, 0b10101010, 0b10000111] = .ok .cmd8 := by decide
/-- V-FR-4 -/
theorem test_decode_cmd17 :
    decode [0b01010001, 0x12, 0x34, 0x56, 0x78, 0b00000001] = .ok (.cmd17 0x12345678) := by decide
/-- V-FR-7 -/
theorem test_decode_cmd24 :
    decode [0b01011000, 0x80, 0x00, 0x00, 0x01, 0b00000001] = .ok (.cmd24 0x80000001) := by decide
/-- V-FR-8 -/
theorem test_decode_cmd55 : decode [0b01110111, 0, 0, 0, 0, 0b00000001] = .ok .cmd55 := by decide
/-- V-FR-9 -/
theorem test_decode_acmd41 : decode [0b01101001, 0b01000000, 0, 0, 0, 0b00000001] = .ok .acmd41 := by decide
/-- V-FR-10 -/
theorem test_decode_cmd58 : decode [0b01111010, 0, 0, 0, 0, 0b00000001] = .ok .cmd58 := by decide
/-- V-FR-11 -/
theorem test_decode_cmd9 : decode [0b01001001, 0, 0, 0, 0, 0b00000001] = .ok .cmd9 := by decide
/-- V-FR-12: the CRC byte is a parameter and never matched (R326). -/
theorem test_decode_any_crc : decodeTableWord 48 0x5112345678FF = some (.cmd17 0x12345678) := by decide
/-- R301, R302, R305: two high bits other than 0 then 1, an index the block never emits, another fixed argument. -/
theorem test_decode_bad_frames :
    decodeFrame 0xC00000000095 = .error .notAFrame ∧ decodeFrame 0x000000000095 = .error .notAFrame ∧
    decodeFrame 0x4D0000000001 = .error .unknownIndex ∧ decodeFrame 0x400000000195 = .error .wrongArgument ∧
    decodeFrame 0x690000000001 = .error .wrongArgument := by decide
/-- R301, R324: every other length is no instruction. -/
theorem test_decode_lengths :
    decode [] = .error .wrongLength ∧ decode [0x40, 0, 0, 0, 0] = .error .wrongLength ∧
    decode [0x40, 0, 0, 0, 0, 0x95, 0] = .error .wrongLength := by decide
/-- V-FR-5, V-FR-6, V-FR-9: the bytes the assembler gives. -/
theorem test_encode_frames :
    encode Config.defaultFrameCrc (.cmd17 0xFFFFFFFF) = [0x51, 0xFF, 0xFF, 0xFF, 0xFF, 0x01] ∧
    encode Config.defaultFrameCrc (.cmd24 0x00000200) = [0x58, 0x00, 0x00, 0x02, 0x00, 0x01] ∧
    encode Config.defaultFrameCrc .acmd41 = [0x69, 0x40, 0x00, 0x00, 0x00, 0x01] := by decide

/-- The step that ends the APP_CMD_PREFIX transaction. -/
def prefixEnds : State := initializing .appCmdPrefixSent (.postDummy .cmd55 (some 0x01) 1) [some 0xFF]

/-! ### One step of every request -/

/-- V-INIT-1: while BUSY = 1, during the preamble, STATUS = 0x00100001. -/
theorem test_init_accepted :
    statusWord (next (exec .init uninit)) = 0x00100001 ∧ (next (exec .init uninit)).phase = .clkSlow := by decide
/-- V-INIT-11 -/
theorem test_init_refused : statusWord (next (exec .init ready)) = 0x06603522 := by decide
/-- Part 2.6: between the accepting step and event 1, STATUS = 0x00700023; `a_lat` takes ADDR. -/
theorem test_read_block_accepted :
    statusWord (next (exec .readBlock { ready with addr := 0xDEADBEEF, bufValid := true })) = 0x00700023 ∧
    (next (exec .readBlock { ready with addr := 0xDEADBEEF })).aLat = 0xDEADBEEF := by decide
/-- V-RD-6 -/
theorem test_read_block_refused : statusWord (next (exec .readBlock uninit)) = 0x00002500 := by decide
/-- R511, R115: STATE = XFER_WRITE_BLOCK, BUF_VALID kept. -/
theorem test_write_block_accepted :
    statusWord (next (exec .writeBlock { ready with bufValid := true })) = 0x00800027 := by decide
/-- R622: a REQ write while BUSY = 1 only sets HOST_VIOLATION (0x00800063 with bit 7). -/
theorem test_write_block_while_busy :
    statusWord (next (exec .writeBlock (writing .sendToken []))) = 0x008000E3 := by decide
/-- R531, R116, R117: CSD_VALID cleared, CAP_VALID kept. -/
theorem test_read_csd_accepted :
    statusWord (next (exec .readCsd { ready with csdValid := true, capValid := true })) = 0x00900033 := by decide
/-- R620 case 3 -/
theorem test_read_csd_refused : statusWord (next (exec .readCsd uninit)) = 0x00002500 := by decide
/-- R541: both flags cleared. -/
theorem test_get_capacity_accepted :
    statusWord (next (exec .getCapacity { ready with csdValid := true, capValid := true })) = 0x00900023 := by decide
/-- V-CAP-1: the last step of GET_CAPACITY computes CSIZE and CAP_KIB; STATUS = 0x0060003A. -/
theorem test_get_capacity_result :
    let t := next (step { querying (.postDummy .cmd9 none 1) [some 0x00] with
      mem := [(0x107, 0x00), (0x108, 0x0E), (0x109, 0xCE)] })
    t.csize = 0x000ECE ∧ t.capKib = 0x001D9E00 ∧ statusWord t = 0x0060003A := by decide
/-- V-EX-1, V-EX-2: reserved opcodes. -/
theorem test_reserved_refused :
    statusWord (next (step (hostAt uninit (.wr .word 0x000 0x00000000)))) = 0x00001500 ∧
    statusWord (next (step (hostAt ready (.wr .word 0x000 0x000000FF)))) = 0x06601522 := by decide

/-! ### One step of every frame: byte 0 is sent, byte 1 is next -/

/-- V-INIT-1, event 15 -/
theorem test_cmd0_step :
    let t := next (step (initializing .reset (.issue 0x400000000095) [some 0x5C]))
    t.trace = [.xfer 0x40 (some 0x5C)] ∧ t.phase = .frame .cmd0 0x400000000095 1 := by decide
/-- V-INIT-1, event 26 -/
theorem test_cmd8_step :
    let t := next (step (initializing .voltageCheck (.issue 0x48000001AA87) [some 0x5C]))
    t.trace = [.xfer 0x48 (some 0x5C)] ∧ t.phase = .frame .cmd8 0x48000001AA87 1 := by decide
/-- V-INIT-1, event 41 -/
theorem test_cmd55_step :
    let t := next (step (initializing .appCmdPrefixSent (.issue 0x770000000001) [some 0x5C]))
    t.trace = [.xfer 0x77 (some 0x5C)] ∧ t.phase = .frame .cmd55 0x770000000001 1 := by decide
/-- V-INIT-1, event 52 -/
theorem test_acmd41_step :
    let t := next (step (initializing .operatingConditionPoll (.issue 0x694000000001) [some 0x5C]))
    t.trace = [.xfer 0x69 (some 0x5C)] ∧ t.phase = .frame .acmd41 0x694000000001 1 := by decide
/-- R471, R475: the attempt is counted once, in the last step before its transaction. -/
theorem test_attempt_counted_once :
    let counted := next (step prefixEnds)
    counted.opcondAttempts = 1 ∧ counted.phase = .select .acmd41 ∧
    (next (step { counted with phase := .issue 0x694000000001, csN := false, card := [some 0xFF] })).opcondAttempts = 1 :=
  by decide
/-- V-INIT-1, event 63 -/
theorem test_cmd58_step :
    let t := next (step (initializing .readOcr (.issue 0x7A0000000001) [some 0x5C]))
    t.trace = [.xfer 0x7A (some 0x5C)] ∧ t.phase = .frame .cmd58 0x7A0000000001 1 := by decide
/-- V-FR-13: the third byte of the frame fails; the exit deselects next. -/
theorem test_cmd17_third_byte_fails :
    let t := next (step (reading (.frame .cmd17 0x511234567801 2) [none]))
    t.trace = [.xfer 0x34 none] ∧ t.phase = .errorExit ∧ t.err = .busError := by decide
/-- V-RD-8: the frame of ADDR = 0xDEADBEEF. -/
theorem test_cmd17_frame :
    frameBytes (frameOf .cmd17 { ready with aLat := 0xDEADBEEF }) = [0x51, 0xDE, 0xAD, 0xBE, 0xEF, 0x01] := by decide
/-- V-WR-1: the byte after the last frame byte is the data-start token. -/
theorem test_cmd24_last_byte :
    let t := next (step (writing (.frame .cmd24 0x580000000001 5) [some 0x5C]))
    t.trace = [.xfer 0x01 (some 0x5C)] ∧ t.phase = .sendToken ∧
    (next (step { t with card := [some 0xFF] })).trace = [.xfer 0x01 (some 0x5C), .xfer 0xFE (some 0xFF)] := by decide
/-- V-BUS-9: the first byte of CMD9's frame. -/
theorem test_cmd9_step :
    let t := next (step (querying (.issue 0x490000000001) [some 0x5C]))
    t.trace = [.xfer 0x49 (some 0x5C)] ∧ t.phase = .frame .cmd9 0x490000000001 1 := by decide

/-! ### Bytes the card sends (part 2.2) -/

/-- V-BUS-2, V-BUS-3, V-BUS-5 and the data-response table. -/
theorem test_byte_classes :
    isR1 0x3F = true ∧ isR1 0x80 = false ∧ isR1 0xC1 = false ∧ isStartToken 0xFE = true ∧ isStartToken 0x05 = false ∧
    isDataResponse 0xE5 = true ∧ isDataResponse 0x03 = true ∧ isDataResponse 0xFF = false ∧
    isDataResponse 0x00 = false ∧ isDataResponse 0x15 = false ∧ isDataResponse 0x04 = false ∧
    isAccepted 0x05 = true ∧ isAccepted 0xE5 = true ∧ isAccepted 0x0B = false ∧
    rejectCause 0x0B = .crcError ∧ rejectCause 0xEB = .crcError ∧ rejectCause 0x0D = .writeError ∧
    rejectCause 0x0F = .otherStatus ∧ rejectCause 0x03 = .otherStatus := by decide
/-- V-CAP-2 to V-CAP-5 -/
theorem test_capacities :
    capKibOf (cSizeOf 0x00 0x00 0x00) = 512 ∧ cSizeOf 0xFF 0xFF 0xFF = 0x3FFFFF ∧ capKibOf 0x3FFFFF = 0x80000000 ∧
    cSizeOf 0xC0 0x00 0x00 = 0 ∧ cSizeOf 0x00 0x3B 0x37 = 0x003B37 ∧ capKibOf 0x003B37 = 7761920 := by decide
/-- V-BUS-13: a transport failure on the last byte of a poll is a BusError. -/
theorem test_failing_last_poll_byte :
    let t := next (step (initializing .reset (.pollR1 .cmd0 8) [none]))
    t.err = .initializationFailed ∧ t.errCause = .innerBusError ∧ t.errSite = .none := by decide
/-- V-WR-2: the step of the rejected token. -/
theorem test_write_rejected :
    let t := next (step (writing (.pollDresp 1) [some 0x0B]))
    t.dresp = 0x0B ∧ t.err = .writeRejected ∧ t.errCause = .crcError ∧ t.phase = .errorExit := by decide

/-! ### Witnesses: for every statement with hypotheses, concrete states and operands that meet them, clause by clause -/

/-- The premise of every statement about what a step answers: no host violation so far (R622), and whose move it is. -/
abbrev moves (s : State) (a : Turn) : Prop := s.refusalMark = false ∧ whoMoves s = a

/-- An idle state with empty buffers, ERR = 0 and no host violation. -/
theorem inv_of_idle {s : State} (h1 : s.cfg = cfg) (h2 : s.mem = []) (h3 : s.busy = false) (h4 : s.phase = .idle)
    (h5 : s.csN = true) (h6 : s.seqState = if s.ready then .ready else .uninit)
    (h7 : s.clkSel = if s.ready then .fast else .slow)
    (h8 : s.err = .none ∧ s.errCause = .none ∧ s.errSite = .none ∧ s.errState = .uninit)
    (h9 : s.hostViolation = false) : Inv s := by
  have hp : positionOk s := by simp [positionOk, h4, h6]
  refine ⟨by rw [h1]; exact test_wf_config, by rw [h2]; exact memory_nil_wf, by rw [h2]; exact memory_nil_inWindows,
    by simp [h3, h4], hp, by simp [h4, h5, phaseLevel], ?_, by simp [h3], by simp [h3],
    by simp [errorFieldsOk, h8], by simp [h9]⟩
  cases hr : s.ready <;> simp [h1, h7, hr] <;> rfl

theorem inv_uninit : Inv uninit := inv_of_idle rfl rfl rfl rfl rfl rfl rfl ⟨rfl, rfl, rfl, rfl⟩ rfl

theorem inv_ready : Inv ready := inv_of_idle rfl rfl rfl rfl rfl rfl rfl ⟨rfl, rfl, rfl, rfl⟩ rfl

theorem inv_reading {p : Phase} {card : List (Option Byte)} (hp : positionOk (reading p card)) (hi : p ≠ .idle) :
    Inv (reading p card) :=
  inv_of_running
    ⟨test_wf_config, memory_nil_wf, memory_nil_inWindows, ⟨fun _ => ⟨rfl, rfl⟩, fun _ => rfl⟩, trivial, rfl,
      ⟨rfl, rfl, rfl⟩, rfl, fun h => h⟩ hp rfl hi

theorem inv_writing {p : Phase} {card : List (Option Byte)} (hp : positionOk (writing p card)) (hi : p ≠ .idle) :
    Inv (writing p card) :=
  inv_of_running
    ⟨test_wf_config, memory_nil_wf, memory_nil_inWindows, ⟨fun _ => ⟨rfl, rfl⟩, fun _ => rfl⟩, trivial, rfl,
      ⟨rfl, rfl, rfl⟩, rfl, fun h => h⟩ hp rfl hi

/-- The last step of an INIT: READ_OCR's transaction is over and the clock is raised. -/
def raising : State := { initializing .readOcr .clkFast [] with attempts := 1 }

theorem inv_raising : Inv raising :=
  inv_of_running
    ⟨test_wf_config, memory_nil_wf, memory_nil_inWindows, by decide, ⟨by decide, by decide⟩, rfl, ⟨rfl, rfl, rfl⟩, rfl,
      fun h => h⟩
    ⟨⟨rfl, rfl, rfl⟩, rfl⟩ rfl (by decide)

/-- A block of equal bytes, read anywhere inside it. -/
theorem read_block (b : Byte) (n base a : Nat) (h₁ : base ≤ a) (h₂ : a < base + n) :
    Memory.read ((List.range' base n).map (fun x => (x, b))) a = some b := by
  induction n generalizing base with
  | zero => omega
  | succ n ih =>
    simp only [List.range'_succ, List.map_cons, Memory.read]
    split
    · rfl
    · exact ih (base + 1) (by omega) (by omega)

theorem witness_DecodeReadsBackEveryEncoding :
    Instr.wf (.cmd17 0xFFFFFFFF) = true ∧ Instr.wf .getCapacity = true := by decide

theorem witness_DecodedWordIsItsEncodingButForCrc :
    decodeOpcode 0x05 = .ok .getCapacity ∧ decodeFrame 0x588000000101 = .ok (.cmd24 0x80000001) := by decide

theorem witness_StepRunsThePresentedRequest :
    let s := hostAt ready (.wr .word 0x000 0x05)
    let r := hostAt ready (.wr .word 0x000 0x06)
    moves s .host ∧ s.program[s.hpc]? = some (.wr .word 0x000 0x05) ∧ decodeRequest 0x05 = .ok .getCapacity ∧
    moves r .host ∧ r.program[r.hpc]? = some (.wr .word 0x000 0x06) ∧
    decodeRequest 0x06 = .error .reservedOpcode := by decide

theorem witness_StepRunsTheAssembledFrame :
    let s := reading (.issue 0x510000000001) []
    moves s .controller ∧ s.phase = .issue 0x510000000001 ∧ decodeFrame 0x510000000001 = .ok (.cmd17 0) := by
  decide

theorem witness_PlacedWordIsRunNext :
    uninit.refusalMark = false ∧ decodeTableWord 8 0x05 = some .getCapacity ∧ decodeTableWord 32 0x01 = some .init ∧
    decodeTableWord 48 0x490000000001 = some .cmd9 := by decide

theorem witness_OneBusEventAStep :
    (let s := reading .errorExit []
     moves s .controller ∧ s.phase ≠ .idle ∧ step s = .next (next (step s))) ∧
    (let s : State := { ready with turns := [.controller] }
     moves s .controller ∧ s.phase = .idle ∧ step s = .next (next (step s))) ∧
    (moves ready .host ∧ step ready = .next (next (step ready))) :=
  ⟨⟨by decide, by decide, rfl⟩, ⟨by decide, by decide, rfl⟩, by decide, rfl⟩

theorem witness_AcceptedRequestStarts :
    (uninit.busy = false ∧ uninit.ready = false) ∧ (ready.busy = false ∧ ready.ready = true) := by decide

theorem witness_RefusedRequestWritesErrOnly :
    ready.busy = false ∧ ready.ready = true ∧ uninit.busy = false ∧ uninit.ready = false ∧
    BitVec.extractLsb' 0 8 (0xABCDEF00 : Word) = 0 ∧ 6 ≤ (BitVec.extractLsb' 0 8 (0x00000006 : Word)).toNat ∧
    6 ≤ (BitVec.extractLsb' 0 8 (0x000000FF : Word)).toNat ∧
    Instr.getCapacity ∈ [Instr.readBlock, .writeBlock, .readCsd, .getCapacity] := by decide

theorem witness_BusyRequestOnlyMarksViolation : (reading .errorExit []).busy = true := by decide

theorem witness_InstructionStepFrame :
    exec .init uninit = .next (next (exec .init uninit)) ∧
    (let s := reading (.issue 0x510000000001) [some 0xFF]
     exec (.cmd17 0) s = .next (next (exec (.cmd17 0) s)) ∧ s.csN = false ∧ cardReply s ≠ none) :=
  ⟨rfl, rfl, by decide, by decide⟩

theorem witness_FrameSendsItsFirstByte : cardReply (reading (.issue 0x510000000001) [some 0xFF]) = some 0xFF := by
  decide

theorem witness_FrameIsSixExchangesOrStopsAtAFailure :
    let f := assembleFrame cfg.frameCrc (Cmd.index .cmd17) (Cmd.argument 7 .cmd17)
    let s := reading (.issue f)
    (∀ card, (s card).refusalMark = false ∧ (s card).turns = [] ∧ (s card).busy = true ∧ (s card).phase = .issue f) ∧
    (s (List.replicate 6 (some 0xFF))).card = (List.replicate 6 0xFF).map some ++ [] ∧
    (s [none]).card = ([] : List Byte).map some ++ none :: [] ∧
    (s [some 1, some 2, some 3, some 4, some 5, none]).card = [1, 2, 3, 4, 5].map some ++ none :: [] :=
  ⟨fun _ => ⟨rfl, rfl, rfl, rfl⟩, rfl, rfl, rfl⟩


theorem witness_OnlyTheEightCommandsAreSent :
    let f := frameOf .cmd17 ready
    Inv (reading (.issue f) []) ∧ (reading (.issue f) []).phase = .issue f :=
  ⟨inv_reading ⟨.cmd17, ⟨rfl, rfl, rfl⟩, rfl⟩ (by simp), rfl⟩

theorem witness_FailedExchangeRaisesBusError :
    (let s := initializing .reset (.pollR1 .cmd0 8) [none]
     moves s .controller ∧ exchangePhase s.phase ∧ cardReply s = none ∧ s.opLat = 0x01 ∧ s.csN = false) ∧
    (let s := reading (.postDummy .cmd17 none 1) [none]
     moves s .controller ∧ exchangePhase s.phase ∧ cardReply s = none ∧ s.opLat ≠ 0x01 ∧ s.csN = true) ∧
    (let s := reading (.issue 0x510000000001) [none]
     moves s .controller ∧ exchangePhase s.phase ∧ cardReply s = none ∧ s.opLat ≠ 0x01 ∧ s.csN = false) :=
  ⟨⟨by decide, trivial, rfl, by decide, rfl⟩, ⟨by decide, trivial, rfl, by decide, rfl⟩,
    ⟨by decide, ⟨.cmd17 0, by decide⟩, rfl, by decide, rfl⟩⟩

theorem witness_ErrorExitDeselectsAndIdles :
    moves (reading .errorExit []) .controller ∧ (reading .errorExit []).phase = .errorExit := by decide

theorem witness_RaisedErrorCodes : raising.opLat = 0x01 ∧ (writing .errorExit []).opLat ≠ 0x01 := by decide

/-- The last step of a transaction of INIT whose SEND_OP_COND is busy at the retry limit. -/
def givingUp : State :=
  { initializing .operatingConditionPoll (.postDummy .acmd41 (some 0x01) 1) [some 0xFF] with attempts := 4 }

theorem inv_givingUp : Inv givingUp :=
  inv_of_running
    ⟨test_wf_config, memory_nil_wf, memory_nil_inWindows, by decide, ⟨by decide, Nat.le_refl 4⟩, rfl, ⟨rfl, rfl, rfl⟩, rfl,
      fun h => h⟩
    ⟨⟨rfl, rfl, rfl⟩, by decide, by decide⟩ rfl (by decide)

/-- The exit's `CS(1)`; V-RD-5's failing post-deselect dummy byte; an INIT that gives up. -/
theorem witness_FailedFillHoldsNoValue :
    (let s := reading .errorExit []
     moves s .controller ∧ s.phase = .errorExit ∧ step s = .next (next (step s)) ∧ s.opLat = 0x02) ∧
    (let s := querying .errorExit []
     moves s .controller ∧ s.phase = .errorExit ∧ step s = .next (next (step s)) ∧ s.opLat = 0x05) ∧
    (let s := writing .errorExit []
     moves s .controller ∧ s.phase = .errorExit ∧ step s = .next (next (step s)) ∧
       s.opLat ≠ 0x02 ∧ s.opLat ≠ 0x04 ∧ s.opLat ≠ 0x05) ∧
    (let s := reading (.postDummy .cmd17 none 1) [none]
     moves s .controller ∧ s.csN = true ∧ exchangePhase s.phase ∧ cardReply s = none ∧
       step s = .next (next (step s)) ∧ s.opLat = 0x02) ∧
    (moves givingUp .controller ∧ Inv givingUp ∧ step givingUp = .next (next (step givingUp)) ∧
      givingUp.busy = true ∧ (next (step givingUp)).busy = false ∧ (next (step givingUp)).err ≠ .none ∧
      givingUp.opLat = 0x01) :=
  ⟨⟨by decide, rfl, rfl, by decide⟩, ⟨by decide, rfl, rfl, by decide⟩, ⟨by decide, rfl, rfl, by decide⟩,
    ⟨by decide, rfl, trivial, rfl, rfl, by decide⟩, by decide, inv_givingUp, rfl, rfl, by decide, by decide,
    by decide⟩

/-- Each poll at its last byte but one and at its last, with a byte that does not match. -/
theorem witness_PollSkipsOrExpires :
    let r1 := fun k => initializing .reset (.pollR1 .cmd0 k) [some 0x80]
    let token := fun k => reading (.pollToken .cmd17 k) [some 0x00]
    let dresp := fun k => writing (.pollDresp k) [some 0xFF]
    let busy := fun k => writing (.pollBusy k) [some 0x00]
    (∀ k, moves (r1 k) .controller ∧ cardReply (r1 k) = some 0x80 ∧ (r1 k).phase = .pollR1 .cmd0 k) ∧
    (∀ k, moves (token k) .controller ∧ cardReply (token k) = some 0x00 ∧
      (token k).phase = .pollToken .cmd17 k) ∧
    (∀ k, moves (dresp k) .controller ∧ cardReply (dresp k) = some 0xFF ∧ (dresp k).phase = .pollDresp k) ∧
    (∀ k, moves (busy k) .controller ∧ cardReply (busy k) = some 0x00 ∧ (busy k).phase = .pollBusy k) ∧
    (0x80 : Byte).getLsbD 7 = true ∧ (0x00 : Byte) ≠ 0xFE ∧ (0xFF : Byte) &&& 0x11 ≠ 0x01 ∧
    7 < cfg.r1PollLimit ∧ cfg.r1PollLimit ≤ 8 ∧ 7 < cfg.tokenPollLimit ∧ cfg.tokenPollLimit ≤ 8 ∧
    7 < cfg.drespPollLimit ∧ cfg.drespPollLimit ≤ 8 ∧ 7 < cfg.busyPollLimit ∧ cfg.busyPollLimit ≤ 8 := by
  refine ⟨fun _ => ⟨⟨rfl, rfl⟩, rfl, rfl⟩, fun _ => ⟨⟨rfl, rfl⟩, rfl, rfl⟩, fun _ => ⟨⟨rfl, rfl⟩, rfl, rfl⟩, fun _ => ⟨⟨rfl, rfl⟩, rfl, rfl⟩, ?_⟩
  decide

theorem witness_PollMatchEndsThePoll :
    (let s := initializing .voltageCheck (.pollR1 .cmd8 8) [some 0x7F]
     moves s .controller ∧ cardReply s = some 0x7F ∧ s.phase = .pollR1 .cmd8 8 ∧
       (0x7F : Byte).getLsbD 7 = false) ∧
    (let s := initializing .reset (.pollR1 .cmd0 1) [some 0x00]
     moves s .controller ∧ cardReply s = some 0x00 ∧ s.phase = .pollR1 .cmd0 1 ∧
       (0x00 : Byte).getLsbD 7 = false) ∧
    (let s := reading (.pollToken .cmd17 8) [some 0xFE]
     moves s .controller ∧ cardReply s = some 0xFE ∧ s.phase = .pollToken .cmd17 8) ∧
    (let s := writing (.pollBusy 8) [some 0x01]
     moves s .controller ∧ cardReply s = some 0x01 ∧ s.phase = .pollBusy 8 ∧ (0x01 : Byte) ≠ 0x00) := by
  decide

theorem witness_DataResponseDecidesTheWrite :
    (∀ k d, moves (writing (.pollDresp k) [some d]) .controller ∧
      (writing (.pollDresp k) [some d]).phase = .pollDresp k ∧ cardReply (writing (.pollDresp k) [some d]) = some d ∧
      (writing (.pollDresp k) [some d]).opLat = 0x03) ∧
    (0xE5 : Byte) &&& 0x11 = 0x01 ∧ (0xE5 : Byte) &&& 0x1F = 0x05 ∧
    (0x0B : Byte) &&& 0x11 = 0x01 ∧ (0x0B : Byte) &&& 0x1F = 0x0B ∧
    (0xED : Byte) &&& 0x11 = 0x01 ∧ (0xED : Byte) &&& 0x1F = 0x0D ∧
    (0x03 : Byte) &&& 0x11 = 0x01 ∧ (0x03 : Byte) &&& 0x1F = 0x03 ∧ (0x15 : Byte) &&& 0x11 ≠ 0x01 ∧
    cfg.writeBusyWait = true ∧ ({ cfg with writeBusyWait := false } : Params).writeBusyWait = false :=
  ⟨fun _ _ => ⟨⟨rfl, rfl⟩, rfl, rfl, rfl⟩, by decide⟩

/-- The first and the last byte of both data phases. -/
theorem witness_DataByteIsStoredInItsStep :
    (∀ i, moves (reading (.readData .cmd17 i) [some 0xFE]) .controller ∧
      (reading (.readData .cmd17 i) [some 0xFE]).phase = .readData .cmd17 i ∧
      cardReply (reading (.readData .cmd17 i) [some 0xFE]) = some 0xFE) ∧
    (∀ i, moves (querying (.readData .cmd9 i) [some 0xFE]) .controller ∧
      (querying (.readData .cmd9 i) [some 0xFE]).phase = .readData .cmd9 i ∧
      cardReply (querying (.readData .cmd9 i) [some 0xFE]) = some 0xFE) ∧
    0 < 512 ∧ 511 < 512 ∧ 0 < 16 ∧ 15 < 16 :=
  ⟨fun _ => ⟨⟨rfl, rfl⟩, rfl, rfl⟩, fun _ => ⟨⟨rfl, rfl⟩, rfl, rfl⟩, by decide⟩

theorem witness_WritePhaseSendsTokenDataCrc :
    (∀ p, moves (writing p [some 0x5C]) .controller ∧ cardReply (writing p [some 0x5C]) = some 0x5C ∧
      (writing p [some 0x5C]).phase = p) ∧
    (∀ i ∈ [0, 511], i < 512 ∧ (writing (.sendData i) []).byteAt (0x200 + i) = none ∧
      ({ writing (.sendData i) [] with mem := [(0x200 + i, 0xAA)] } : State).byteAt (0x200 + i) = some 0xAA) :=
  ⟨fun _ => ⟨⟨rfl, rfl⟩, rfl, rfl⟩, by decide⟩

theorem witness_FourTrailingBytesAreBigEndian :
    let s := initializing .voltageCheck (.readFour .cmd8 1 0) [some 0x00, some 0x00, some 0x01, some 0xAA]
    let r := initializing .readOcr (.readFour .cmd58 1 0) [some 0xC0, some 0xFF, some 0x80, some 0x00]
    (s.refusalMark = false ∧ s.turns = [] ∧ s.busy = true ∧ s.phase = .readFour .cmd8 1 0 ∧
      s.card = some 0x00 :: some 0x00 :: some 0x01 :: some 0xAA :: []) ∧
    (r.refusalMark = false ∧ r.turns = [] ∧ r.busy = true ∧ r.phase = .readFour .cmd58 1 0 ∧
      r.card = some 0xC0 :: some 0xFF :: some 0x80 :: some 0x00 :: []) := by decide

theorem witness_PreambleClocksTheDeselectedCard :
    let s := initializing .reset .clkSlow (List.replicate 10 (some 0xFF))
    s.refusalMark = false ∧ s.turns = [] ∧ s.busy = true ∧ s.phase = .clkSlow ∧
    (List.replicate 10 (0xFF : Byte)).length = s.cfg.nPowerupDummy ∧
    s.card = (List.replicate 10 0xFF).map some ++ [] := by decide

/-- The last post-deselect dummy byte of a transaction of INIT. -/
def endingWithDummy (q : SeqState) (c : Cmd) (r : Option Byte) : State :=
  { initializing q (.postDummy c r 1) [some 0xFF] with attempts := 4 }

/-- The `CS(1)` of a transaction of INIT, with N_POST_DUMMY = 0. -/
def endingWithDeselect (q : SeqState) (c : Cmd) (r : Option Byte) : State :=
  { initializing q (.deselect c r) [] with cfg := { cfg with nPostDummy := 0, strictInit := true } }

/-- The state right after the last event of each. -/
def afterLastEvent (s : State) : State :=
  match s.phase with
  | .deselect _ _ =>
      { s with turns := s.turns.tail, csN := true, draws := s.draws + 1, trace := s.trace ++ [.cs true] }
  | _ =>
      { s with
        turns := s.turns.tail, card := s.card.tail, draws := s.draws + 1
        trace := s.trace ++ [.xfer dummyByte (some 0xFF)] }

theorem txnLastEvent_dummy (q : SeqState) (c : Cmd) (r : Option Byte) :
    txnLastEvent c r (endingWithDummy q c r) (afterLastEvent (endingWithDummy q c r)) :=
  .inr ⟨1, 0xFF, rfl, Nat.le_refl 1, rfl, rfl⟩

theorem txnLastEvent_deselect (q : SeqState) (c : Cmd) (r : Option Byte) :
    txnLastEvent c r (endingWithDeselect q c r) (afterLastEvent (endingWithDeselect q c r)) :=
  .inl ⟨rfl, rfl, rfl⟩

theorem witness_OpCondFollowsItsPrefix :
    (moves prefixEnds .controller ∧ step prefixEnds = .next (next (step prefixEnds)) ∧
      (next (step prefixEnds)).phase = .select .acmd41) ∧
    (∀ r, moves (endingWithDummy .appCmdPrefixSent .cmd55 (some r)) .controller ∧
      txnLastEvent .cmd55 (some r) (endingWithDummy .appCmdPrefixSent .cmd55 (some r))
        (afterLastEvent (endingWithDummy .appCmdPrefixSent .cmd55 (some r)))) ∧
    (∀ r, moves (endingWithDeselect .appCmdPrefixSent .cmd55 (some r)) .controller ∧
      txnLastEvent .cmd55 (some r) (endingWithDeselect .appCmdPrefixSent .cmd55 (some r))
        (afterLastEvent (endingWithDeselect .appCmdPrefixSent .cmd55 (some r)))) :=
  ⟨⟨by decide, rfl, by decide⟩, fun _ => ⟨⟨rfl, rfl⟩, txnLastEvent_dummy _ _ _⟩,
    fun _ => ⟨⟨rfl, rfl⟩, txnLastEvent_deselect _ _ _⟩⟩

/-- Ready, still initialising with attempts left, and still initialising at the retry limit. -/
theorem witness_OpCondResponseIsJudged :
    (∀ r, moves (endingWithDummy .operatingConditionPoll .acmd41 (some r)) .controller ∧
      txnLastEvent .acmd41 (some r) (endingWithDummy .operatingConditionPoll .acmd41 (some r))
        (afterLastEvent (endingWithDummy .operatingConditionPoll .acmd41 (some r)))) ∧
    (∀ r, moves (endingWithDeselect .operatingConditionPoll .acmd41 (some r)) .controller ∧
      txnLastEvent .acmd41 (some r) (endingWithDeselect .operatingConditionPoll .acmd41 (some r))
        (afterLastEvent (endingWithDeselect .operatingConditionPoll .acmd41 (some r)))) ∧
    cfg.opcondPolarity = .protocol ∧ (0x01 : Byte) ≠ 0x00 ∧
    (endingWithDummy .operatingConditionPoll .acmd41 none).attempts = cfg.opcondRetryLimit ∧
    (endingWithDeselect .operatingConditionPoll .acmd41 none).attempts ≠ cfg.opcondRetryLimit :=
  ⟨fun _ => ⟨⟨rfl, rfl⟩, txnLastEvent_dummy _ _ _⟩, fun _ => ⟨⟨rfl, rfl⟩, txnLastEvent_deselect _ _ _⟩, rfl, by decide, by decide,
    by decide⟩

/-- Every checked transaction, STRICT_INIT off (the dummy ending) and on (the deselect ending), with a response that
passes and one that fails. -/
theorem witness_StrictInitChecksResponses :
    (∀ q c r, moves (endingWithDummy q c r) .controller ∧
      txnLastEvent c r (endingWithDummy q c r) (afterLastEvent (endingWithDummy q c r)) ∧
      (endingWithDummy q c r).cfg.strictInit = false ∧ (endingWithDummy q c r).cfg.raiseClock = true) ∧
    (∀ q c r, moves (endingWithDeselect q c r) .controller ∧
      txnLastEvent c r (endingWithDeselect q c r) (afterLastEvent (endingWithDeselect q c r)) ∧
      (endingWithDeselect q c r).cfg.strictInit = true) ∧
    ({ cfg with raiseClock := false } : Params).raiseClock = false ∧ (0x00 : Byte) ≠ 0x01 ∧
    BitVec.extractLsb' 8 4 (0x000001AA : Word) = 0x1#4 ∧ BitVec.extractLsb' 0 8 (0x000001AA : Word) = 0xAA#8 ∧
    BitVec.extractLsb' 0 8 (0x00000155 : Word) ≠ 0xAA#8 ∧ (0xC0FF8000 : Word).getLsbD 31 = true ∧
    (0x40FF8000 : Word).getLsbD 31 = false :=
  ⟨fun _ _ _ => ⟨⟨rfl, rfl⟩, txnLastEvent_dummy _ _ _, rfl, rfl⟩, fun _ _ _ => ⟨⟨rfl, rfl⟩, txnLastEvent_deselect _ _ _, rfl⟩,
    by decide⟩

/-- The card's answers of V-INIT-1, every discarded byte 0x5C. -/
theorem witness_InitBringsTheCardUp :
    let up : List Byte := List.replicate 10 0x5C
    let p : List Byte := [0x5C]
    let f : List Byte := List.replicate 6 0x5C
    let q : List Byte := [0x5C]
    let s : State := { uninit with
      card := (up ++ (p ++ f ++ [0x01] ++ q) ++ (p ++ f ++ [0x01, 0x00, 0x00, 0x01, 0xAA] ++ q) ++
        (p ++ f ++ [0x01] ++ q) ++ (p ++ f ++ [0x00] ++ q) ++
        (p ++ f ++ [0x00, 0xC0, 0xFF, 0x80, 0x00] ++ q)).map some ++ [] }
    s.refusalMark = false ∧ s.busy = false ∧ s.ready = false ∧ s.turns = [] ∧ s.cfg.strictInit = false ∧ s.cfg.opcondPolarity = .protocol ∧
    up.length = s.cfg.nPowerupDummy ∧ (∀ l ∈ [p, p, p, p, p], l.length = s.cfg.nPreDummy) ∧
    (∀ l ∈ [f, f, f, f, f], l.length = 6) ∧ (∀ l ∈ [q, q, q, q, q], l.length = s.cfg.nPostDummy) ∧
    (∀ b ∈ [(0x01 : Byte), 0x01, 0x01, 0x00], b.getLsbD 7 = false) := by decide

/-- V-RD-7: the token at the poll limit. -/
theorem witness_ReadBlockFillsBuf :
    let skipped : List Byte := List.replicate 7 0xFF
    let s : State := { ready with
      card := ([(0x5C : Byte)] ++ List.replicate 6 0x5C ++ skipped ++ [0xFE] ++ List.replicate 512 0xAA ++ [] ++
        [0x5C]).map some ++ [] }
    s.refusalMark = false ∧ s.busy = false ∧ s.ready = true ∧ s.turns = [] ∧ [(0x5C : Byte)].length = s.cfg.nPreDummy ∧
    (List.replicate 6 (0x5C : Byte)).length = 6 ∧ (List.replicate 512 (0xAA : Byte)).length = 512 ∧
    ([] : List Byte).length = s.cfg.nReadTrailer ∧ [(0x5C : Byte)].length = s.cfg.nPostDummy ∧
    skipped.length < s.cfg.tokenPollLimit ∧ (∀ b ∈ skipped, b ≠ 0xFE) ∧
    s.card = ([(0x5C : Byte)] ++ List.replicate 6 0x5C ++ skipped ++ [0xFE] ++ List.replicate 512 0xAA ++ [] ++
        [0x5C]).map some ++ [] := by
  refine ⟨rfl, rfl, rfl, rfl, rfl, rfl, List.length_replicate, rfl, rfl, ?_, ?_, rfl⟩ <;> decide

/-- V-WR-1 and V-WR-7, with and without the busy wait; BUF = [0xAA; 512]. -/
theorem witness_WriteBlockSendsBuf :
    let busyRead : List Byte := List.replicate 7 0x00 ++ [0xFF]
    let s : State := { ready with
      mem := (List.range' 0x200 512).map (fun a => (a, 0xAA))
      card := ([(0x5C : Byte)] ++ List.replicate 6 0x5C ++ List.replicate 515 0x5C ++ List.replicate 7 0xFF ++ [0xE5] ++
        busyRead ++ [0x5C]).map some ++ [] }
    s.refusalMark = false ∧ s.busy = false ∧ s.ready = true ∧ s.turns = [] ∧ [(0x5C : Byte)].length = cfg.nPreDummy ∧
    (List.replicate 6 (0x5C : Byte)).length = 6 ∧ (List.replicate 515 (0x5C : Byte)).length = 515 ∧
    [(0x5C : Byte)].length = cfg.nPostDummy ∧ (List.replicate 512 (0xAA : Byte)).length = 512 ∧
    (∀ i, i < 512 → s.byteAt (0x200 + i) = (List.replicate 512 (0xAA : Byte))[i]?) ∧
    (List.replicate 7 (0xFF : Byte)).length < cfg.drespPollLimit ∧
    (∀ b ∈ List.replicate 7 (0xFF : Byte), b &&& 0x11 ≠ 0x01) ∧ (0xE5 : Byte) &&& 0x11 = 0x01 ∧
    (0xE5 : Byte) &&& 0x1F = 0x05 ∧ (List.replicate 7 (0x00 : Byte)).length < cfg.busyPollLimit ∧
    (∀ b ∈ List.replicate 7 (0x00 : Byte), b = 0x00) ∧ (0xFF : Byte) ≠ 0x00 ∧
    s.cfg.writeBusyWait = true ∧ ({ cfg with writeBusyWait := false } : Params).writeBusyWait = false := by
  refine ⟨rfl, rfl, rfl, rfl, rfl, rfl, List.length_replicate, rfl, List.length_replicate, fun i hi => ?_, ?_⟩
  · show Memory.read _ _ = _
    rw [read_block 0xAA 512 0x200 (0x200 + i) (by omega) (by omega)]
    rw [List.getElem?_replicate, if_pos hi]
  · decide

/-- V-CSD-1 and V-CAP-1 -/
theorem witness_CsdRequestsFillCsd :
    let data : List Byte :=
      [0x40, 0x0E, 0x00, 0x32, 0x5B, 0x59, 0x00, 0x00, 0x0E, 0xCE, 0x7F, 0x80, 0x0A, 0x40, 0x00, 0x8B]
    let s : State := { ready with
      card := ([(0x5C : Byte)] ++ List.replicate 6 0x5C ++ [0xFF] ++ [0xFE] ++ data ++ [] ++ [0x5C]).map some ++ [] }
    s.refusalMark = false ∧ s.busy = false ∧ s.ready = true ∧ s.turns = [] ∧ [(0x5C : Byte)].length = s.cfg.nPreDummy ∧
    (List.replicate 6 (0x5C : Byte)).length = 6 ∧ data.length = 16 ∧ ([] : List Byte).length = s.cfg.nReadTrailer ∧
    [(0x5C : Byte)].length = s.cfg.nPostDummy ∧ [(0xFF : Byte)].length < s.cfg.tokenPollLimit ∧
    (∀ b ∈ [(0xFF : Byte)], b ≠ 0xFE) ∧ (Instr.readCsd = .readCsd ∨ Instr.readCsd = .getCapacity) ∧
    (Instr.getCapacity = .readCsd ∨ Instr.getCapacity = .getCapacity) := by decide

theorem witness_SilentCardEndsTheRead :
    let s : State := { ready with card := List.replicate 15 (some 0xFF) }
    s.refusalMark = false ∧ s.busy = false ∧ s.ready = true ∧ s.turns = [] ∧ s.cfg.wf = true ∧
    s.card = List.replicate (s.cfg.nPreDummy + 6 + s.cfg.tokenPollLimit) (some 0xFF) ++ [] := by decide

theorem witness_AcceptedRequestHasTheTableBound :
    (uninit.busy = false ∧ exec .init uninit = .next (next (exec .init uninit)) ∧
      (next (exec .init uninit)).busy = true) ∧
    (ready.busy = false ∧ ∀ i ∈ [Instr.readBlock, .writeBlock, .readCsd, .getCapacity],
      (next (exec i ready)).busy = true) ∧
    exec .getCapacity ready = .next (next (exec .getCapacity ready)) :=
  ⟨⟨rfl, rfl, rfl⟩, ⟨rfl, by decide⟩, rfl⟩

theorem witness_ControllerStepLowersTheBound :
    let s := reading (.pollToken .cmd17 8) [some 0x00]
    Inv s ∧ s.busy = true ∧ moves s .controller ∧ step s = .next (next (step s)) :=
  ⟨inv_reading ⟨⟨rfl, rfl, rfl⟩, .inl rfl, by decide, by decide⟩ (by simp), rfl, ⟨rfl, rfl⟩, rfl⟩

theorem witness_EveryAcceptedRequestEnds :
    (Inv uninit ∧ uninit.refusalMark = false ∧ uninit.turns = [] ∧ uninit.busy = false ∧
      exec .init uninit = .next (next (exec .init uninit)) ∧ (next (exec .init uninit)).busy = true) ∧
    (Inv ready ∧ ready.refusalMark = false ∧ ready.turns = [] ∧ ready.busy = false ∧
      exec .readBlock ready = .next (next (exec .readBlock ready)) ∧ (next (exec .readBlock ready)).busy = true) :=
  ⟨⟨inv_uninit, rfl, rfl, rfl, rfl, rfl⟩, ⟨inv_ready, rfl, rfl, rfl, rfl, rfl⟩⟩

/-- Every clause of the host-port statements is met on the host's turn at a line that names the offset: the first and
the last of each range. -/
theorem witness_IdleReadsReturnTheRegisters :
    (∀ l, moves (hostAt ready l) .host ∧ (hostAt ready l).program[(hostAt ready l).hpc]? = some l ∧
      (hostAt ready l).busy = false) ∧
    (0x000 : Offset).toNat = 0x000 ∧ (0x004 : Offset).toNat = 0x004 ∧ (0x008 : Offset).toNat = 0x008 ∧
    (0x00C : Offset).toNat = 0x00C ∧ (0x010 : Offset).toNat = 0x010 ∧ (0x014 : Offset).toNat = 0x014 ∧
    (0x018 : Offset).toNat = 0x018 ∧ (0x01C : Offset).toNat = 0x01C ∧ (0x020 : Offset).toNat = 0x020 ∧
    (0x024 : Offset).toNat = 0x024 ∧
    (∀ n ∈ [(0x028 : Offset).toNat, (0x0FC : Offset).toNat, (0x110 : Offset).toNat, (0x1FC : Offset).toNat],
      ((0x028 ≤ n ∧ n < 0x100) ∨ (0x110 ≤ n ∧ n < 0x200)) ∧ n % 4 = 0) ∧
    (∀ n ∈ [(0x100 : Offset).toNat, (0x10F : Offset).toNat, (0x200 : Offset).toNat, (0x3FF : Offset).toNat],
      ((0x100 ≤ n ∧ n < 0x110) ∨ 0x200 ≤ n) ∧ ready.byteAt n = none ∧
      ({ ready with mem := [(n, 0xAA)] } : State).byteAt n = some 0xAA) :=
  ⟨fun _ => ⟨⟨rfl, rfl⟩, rfl, rfl⟩, by decide⟩

theorem witness_BusyReadsChangeNothing :
    (let s := hostAt (reading .errorExit []) (.rd .word 0x008)
     moves s .host ∧ s.busy = true ∧ s.program[s.hpc]? = some (.rd .word 0x008)) ∧
    (let s := hostAt (reading .errorExit []) (.rd .byte 0x3FF)
     moves s .host ∧ s.busy = true ∧ s.program[s.hpc]? = some (.rd .byte 0x3FF) ∧
       wellFormedAccess .byte 0x3FF = true ∧ (0x3FF : Offset) ≠ 0x008) := by decide

theorem witness_IllFormedAccessOnlyMarks :
    (∀ l, moves (hostAt ready l) .host ∧ (hostAt ready l).program[(hostAt ready l).hpc]? = some l) ∧
    (0x024 : Offset).toNat < 0x028 ∧ (0x027 : Offset).toNat < 0x028 ∧ (0x027 : Offset).toNat % 4 ≠ 0 ∧
    (∀ n ∈ [(0x100 : Offset).toNat, (0x10F : Offset).toNat], 0x100 ≤ n ∧ n < 0x110) ∧
    (∀ n ∈ [(0x200 : Offset).toNat, (0x3FF : Offset).toNat], 0x200 ≤ n) ∧
    (∀ n ∈ [(0x029 : Offset).toNat, (0x0FF : Offset).toNat, (0x111 : Offset).toNat, (0x1FF : Offset).toNat],
      ((0x028 ≤ n ∧ n < 0x100) ∨ (0x110 ≤ n ∧ n < 0x200)) ∧ n % 4 ≠ 0) :=
  ⟨fun _ => ⟨⟨rfl, rfl⟩, rfl⟩, by decide⟩

theorem witness_IdleWritesTakeEffect :
    (∀ l, moves (hostAt ready l) .host ∧ (hostAt ready l).program[(hostAt ready l).hpc]? = some l ∧
      (hostAt ready l).busy = false) ∧
    (0x000 : Offset).toNat = 0x000 ∧ (0x004 : Offset).toNat = 0x004 ∧ 0x200 ≤ (0x200 : Offset).toNat ∧ 0x200 ≤ (0x3FF : Offset).toNat ∧
    (∀ n ∈ [(0x008 : Offset).toNat, (0x024 : Offset).toNat], n < 0x028 ∧ n % 4 = 0 ∧ n ≠ 0x000 ∧ n ≠ 0x004) ∧
    (∀ n ∈ [(0x100 : Offset).toNat, (0x10F : Offset).toNat], 0x100 ≤ n ∧ n < 0x110) ∧
    (∀ n ∈ [(0x028 : Offset).toNat, (0x0FC : Offset).toNat, (0x110 : Offset).toNat, (0x1FC : Offset).toNat],
      ((0x028 ≤ n ∧ n < 0x100) ∨ (0x110 ≤ n ∧ n < 0x200)) ∧ n % 4 = 0) :=
  ⟨fun _ => ⟨⟨rfl, rfl⟩, rfl, rfl⟩, by decide⟩

theorem witness_BusyWritesOnlyMark :
    let s := hostAt (writing .sendToken []) (.wr .word 0x004 0x5)
    moves s .host ∧ s.program[s.hpc]? = some (.wr .word 0x004 0x5) ∧ s.busy = true := by decide

theorem witness_HostControlFlowFollowsStatus :
    (∀ l, moves (hostAt ready l) .host ∧ (hostAt ready l).program[(hostAt ready l).hpc]? = some l) ∧
    moves ready .host ∧ ready.program[ready.hpc]? = none :=
  ⟨fun _ => ⟨⟨rfl, rfl⟩, rfl⟩, by decide⟩

theorem witness_PlatformResetFromAnyState :
    whoMoves { writing (.sendData 300) [] with turns := [.platformReset] } = .platformReset := by decide

theorem witness_ReadyComesFromInitOnly :
    (Inv raising ∧ step raising = .next (next (step raising)) ∧ raising.ready = false ∧
      (next (step raising)).ready = true) ∧
    (let s : State := { ready with turns := [.platformReset] }
     Inv s ∧ step s = .next (next (step s)) ∧ s.ready = true ∧ (next (step s)).ready = false) ∧
    (moves raising .controller ∧ raising.opLat = 0x01 ∧ raising.busy = true ∧ raising.phase = .clkFast ∧
      (next (step raising)).busy = false ∧ (next (step raising)).err = .none) :=
  ⟨⟨inv_raising, rfl, rfl, rfl⟩, ⟨inv_of_host_fields inv_ready rfl (by decide), rfl, rfl, rfl⟩, by decide⟩

theorem witness_HostViolationIsSticky :
    (let s : State := { ready with hostViolation := true, turns := [.platformReset] }
     step s = .next (next (step s)) ∧ s.hostViolation = true ∧ (next (step s)).hostViolation = false) ∧
    (let s := hostAt ready (.wr .byte 0x004 0x12)
     step s = .next (next (step s)) ∧ s.hostViolation = false ∧ (next (step s)).hostViolation = true) :=
  ⟨⟨rfl, rfl, rfl⟩, ⟨rfl, rfl, rfl⟩⟩

theorem witness_BusyBelongsToTheController :
    (let s := hostAt ready (.wr .word 0x000 0x02)
     Inv s ∧ step s = .next (next (step s)) ∧ s.busy = false ∧ (next (step s)).busy = true) ∧
    (Inv raising ∧ step raising = .next (next (step raising)) ∧ raising.busy = true ∧
      (next (step raising)).busy = false) ∧
    (let s := hostAt (reading (.pollToken .cmd17 1) []) (.wr .byte 0x200 0x12)
     Inv s ∧ step s = .next (next (step s)) ∧ s.busy = true ∧ moves s .host) :=
  ⟨⟨inv_of_host_fields inv_ready rfl (by decide), rfl, rfl, rfl⟩, ⟨inv_raising, rfl, rfl, rfl⟩,
    ⟨inv_of_host_fields
      (inv_reading (p := .pollToken .cmd17 1) (card := []) ⟨⟨rfl, rfl, rfl⟩, .inl rfl, by decide, by decide⟩
        (by simp)) rfl (by decide),
      rfl, rfl, ⟨rfl, rfl⟩⟩⟩

/-- Each register in a step that changes it. -/
theorem witness_ResultRegistersHaveTheirWriters :
    (let s := initializing .voltageCheck (.pollR1 .cmd8 1) [some 0x01]
     step s = .next (next (step s)) ∧ whoMoves s ≠ .platformReset ∧ (next (step s)).r1 ≠ s.r1) ∧
    (let s := initializing .voltageCheck (.readFour .cmd8 4 0x000001) [some 0xAA]
     step s = .next (next (step s)) ∧ whoMoves s ≠ .platformReset ∧ (next (step s)).r7 ≠ s.r7) ∧
    (let s := initializing .readOcr (.readFour .cmd58 4 0xC0FF80) [some 0x00]
     step s = .next (next (step s)) ∧ whoMoves s ≠ .platformReset ∧ (next (step s)).ocr ≠ s.ocr) ∧
    (let s := writing (.pollDresp 1) [some 0xE5]
     step s = .next (next (step s)) ∧ whoMoves s ≠ .platformReset ∧ (next (step s)).dresp ≠ s.dresp) ∧
    (let s : State := { querying (.postDummy .cmd9 none 1) [some 0x00] with
       mem := [(0x107, 0x00), (0x108, 0x0E), (0x109, 0xCE)] }
     step s = .next (next (step s)) ∧ whoMoves s ≠ .platformReset ∧ (next (step s)).csize ≠ s.csize) ∧
    (let s := prefixEnds
     step s = .next (next (step s)) ∧ whoMoves s ≠ .platformReset ∧ (next (step s)).attempts ≠ s.attempts) ∧
    (let s := prefixEnds
     step s = .next (next (step s)) ∧ whoMoves s ≠ .platformReset ∧
       (next (step s)).opcondAttempts ≠ s.opcondAttempts) ∧
    (let s := hostAt ready (.wr .word 0x004 0x10)
     step s = .next (next (step s)) ∧ whoMoves s ≠ .platformReset ∧ (next (step s)).addr ≠ s.addr) :=
  ⟨⟨rfl, by decide, by decide⟩, ⟨rfl, by decide, by decide⟩, ⟨rfl, by decide, by decide⟩,
    ⟨rfl, by decide, by decide⟩, ⟨rfl, by decide, by decide⟩, ⟨rfl, by decide, by decide⟩,
    ⟨rfl, by decide, by decide⟩, ⟨rfl, by decide, by decide⟩⟩

/-- A byte stored by the data phase, one written by the host. -/
theorem witness_BufferBytesHaveTheirWriters :
    (let s := reading (.readData .cmd17 0) [some 0xAA]
     Inv s ∧ step s = .next (next (step s)) ∧ (next (step s)).byteAt 0x200 ≠ s.byteAt 0x200) ∧
    (let s := hostAt ready (.wr .byte 0x3FF 0x55)
     Inv s ∧ step s = .next (next (step s)) ∧ (next (step s)).byteAt 0x3FF ≠ s.byteAt 0x3FF) :=
  ⟨⟨inv_reading ⟨⟨rfl, rfl, rfl⟩, .inl rfl, by decide⟩ (by simp), rfl, by decide⟩,
    ⟨inv_of_host_fields inv_ready rfl (by decide), rfl, by decide⟩⟩

theorem witness_EveryStepKeepsTheInvariant :
    (Inv raising ∧ step raising = .next (next (step raising))) ∧
    (let s := writing (.pollDresp 8) [some 0x0F]
     Inv s ∧ step s = .next (next (step s))) :=
  ⟨⟨inv_raising, rfl⟩, ⟨inv_writing ⟨⟨rfl, rfl, rfl⟩, by decide, by decide⟩ (by simp), rfl⟩⟩

theorem witness_EveryStepKeepsTheResults :
    let s := reading (.pollToken .cmd17 8) [some 0xFE]
    Inv s ∧ ResultsOk s ∧ step s = .next (next (step s)) :=
  ⟨inv_reading ⟨⟨rfl, rfl, rfl⟩, .inl rfl, by decide, by decide⟩ (by simp),
    ⟨fun h => absurd h (by decide), fun h => absurd h (by decide), fun h => absurd h (by decide),
      rfl, fun i hi => absurd hi (Nat.not_lt_zero i)⟩, rfl⟩

theorem witness_EveryStepKeepsTheTrace :
    let s : State := { ready with trace := [.clk .fast, .cs true], turns := [.controller] }
    Inv s ∧ TraceOk s ∧ step s = .next (next (step s)) :=
  ⟨inv_of_idle rfl rfl rfl rfl rfl rfl rfl ⟨rfl, rfl, rfl, rfl⟩ rfl, ⟨rfl, rfl, rfl⟩, rfl⟩

theorem witness_GoodStatesNeverStop :
    (Inv ready ∧ ready.refusalMark = false) ∧ (Inv raising ∧ raising.refusalMark = false) :=
  ⟨⟨inv_ready, rfl⟩, ⟨inv_raising, rfl⟩⟩

/-- Each flag set and cleared, and the ERR fields written by an acceptance, a refusal and a raised error. -/
theorem witness_StatusFlagsHaveTheirWriters :
    (let s := reading (.postDummy .cmd17 none 1) [some 0xFF]
     Inv s ∧ step s = .next (next (step s)) ∧ whoMoves s ≠ .platformReset ∧
       (next (step s)).bufValid ≠ s.bufValid) ∧
    (let s := hostAt { ready with bufValid := true } (.wr .byte 0x200 0x12)
     Inv s ∧ step s = .next (next (step s)) ∧ whoMoves s ≠ .platformReset ∧
       (next (step s)).bufValid ≠ s.bufValid) ∧
    (let s := hostAt { ready with csdValid := true, capValid := true } (.wr .word 0x000 0x05)
     Inv s ∧ step s = .next (next (step s)) ∧ whoMoves s ≠ .platformReset ∧
       (next (step s)).csdValid ≠ s.csdValid ∧ (next (step s)).capValid ≠ s.capValid) ∧
    (let s := hostAt ready (.wr .word 0x000 0x06)
     Inv s ∧ step s = .next (next (step s)) ∧ whoMoves s ≠ .platformReset ∧ (next (step s)).err ≠ s.err) ∧
    (let s := writing (.pollDresp 1) [some 0x0B]
     Inv s ∧ step s = .next (next (step s)) ∧ whoMoves s ≠ .platformReset ∧ (next (step s)).err ≠ s.err) :=
  ⟨⟨inv_reading ⟨⟨rfl, rfl, rfl⟩, by decide, by decide⟩ (by simp), rfl, by decide, by decide⟩,
    ⟨inv_of_idle rfl rfl rfl rfl rfl rfl rfl ⟨rfl, rfl, rfl, rfl⟩ rfl, rfl, by decide, by decide⟩,
    ⟨inv_of_idle rfl rfl rfl rfl rfl rfl rfl ⟨rfl, rfl, rfl, rfl⟩ rfl, rfl, by decide, by decide, by decide⟩,
    ⟨inv_of_host_fields inv_ready rfl (by decide), rfl, by decide, by decide⟩,
    ⟨inv_writing ⟨⟨rfl, rfl, rfl⟩, by decide, by decide⟩ (by simp), rfl, by decide, by decide⟩⟩

/-- V-EX-5 and V-EX-6: an ill-formed write, a write while BUSY = 1, an ill-formed read; a run before and beyond. -/
theorem witness_HostViolationEndsTheRun :
    (let s := hostAt ready (.wr .byte 0x004 0x12)
     s.refusalMark = false ∧ step s = .next (next (step s)) ∧ (next (step s)).refusalMark = true ∧
       advance (next (step s)) = .next (next (advance (next (step s))))) ∧
    (let s := hostAt (reading (.pollToken .cmd17 1) []) (.wr .word 0x004 0x5)
     step s = .next (next (step s)) ∧ (next (step s)).refusalMark = true) ∧
    (let s := hostAt ready (.rd .word 0x200)
     step s = .next (next (step s)) ∧ (next (step s)).refusalMark = true) ∧
    (let s := hostAt ready (.rd .word 0x200)
     moves s .host ∧ s.program[s.hpc]? = some (.rd .word 0x200) ∧ wellFormedAccess .word 0x200 = false) ∧
    (let s := hostAt (reading (.pollToken .cmd17 1) []) (.wr .word 0x000 0x2)
     moves s .host ∧ s.program[s.hpc]? = some (.wr .word 0x000 0x2) ∧ s.busy = true) :=
  ⟨⟨rfl, rfl, rfl, rfl⟩, ⟨rfl, rfl⟩, ⟨rfl, rfl⟩, by decide, by decide⟩

/-- The largest count that 32 bits hold; an INIT at the retry limit, and one past the loop. -/
theorem witness_ResultRegistersHaveTheirWriters_attempts :
    ({ ready with attempts := 4294967295 } : State).attempts < 2 ^ 32 ∧
    (Inv givingUp ∧ givingUp.opLat = 0x01 ∧ givingUp.busy = true ∧ givingUp.seqState = .operatingConditionPoll) ∧
    (Inv raising ∧ raising.opLat = 0x01 ∧ raising.busy = true) :=
  ⟨by decide, ⟨inv_givingUp, rfl, rfl, rfl⟩, ⟨inv_raising, rfl, rfl⟩⟩

/-- Two lines with one label, the first before the second; a label that stands nowhere. -/
theorem witness_HostProgramsAssembleAsTheirLines :
    SourceLine.label 1 ∉ [SourceLine.init, .berr 1] ∧ SourceLine.label 7 ∉ [SourceLine.init, .berr 1] ∧
    (511 : Nat) < 512 := by decide

/-- R325, hand assembled: label 0 is the first position, label 1 that of the line after it. -/
theorem test_assemble_branches :
    assemble [.label 0, .readBlock 0x10, .berr 1, .branch 0, .label 1, .rd8 0x200, .halt] =
      [.wr .word 0x004 0x10, .wr .word 0x000 0x02, .waitIdle, .berr 5, .branch 0, .rd .byte 0x200, .halt] := by decide

/-- R325: FILL's first and last write, a label after it. -/
theorem test_assemble_fill :
    let p := assemble [.fill 0xA5, .label 3, .branch 3]
    p[0]? = some (.wr .byte 0x200 0xA5) ∧ p[511]? = some (.wr .byte 0x3FF 0xA5) ∧ p[512]? = some (.branch 512) := by
  simp [assemble, expandLine, labelPosition, bufSize, bufBase]

/-- A configuration is never changed: a step of each agent. -/
theorem witness_ConfigurationNeverChanges :
    advance ready = .next (next (advance ready)) ∧ advance prefixEnds = .next (next (advance prefixEnds)) := ⟨rfl, rfl⟩

end Sys2Proof.Tests
end

section
/-! SUPPORT. What the operations of a move do to the configuration and the trace (spec/00_scope.md R9, spec/10_state.md
R101): an operation between two bus events records none, and a step of the sequencer records exactly one. -/

namespace Sys2Proof.Machine

/-- `t` has the configuration and the trace of `s`: what led from `s` to `t` records no bus event. -/
structure Silent (s t : State) : Prop where
  cfg : t.cfg = s.cfg
  trace : t.trace = s.trace

/-- `t` has the configuration of `s`, and its trace has one bus event more, which is no reset marker. -/
structure OneEvent (s t : State) : Prop where
  cfg : t.cfg = s.cfg
  trace : ∃ e, e ≠ .rst ∧ t.trace = s.trace ++ [e]

theorem Silent.refl (s : State) : Silent s s := ⟨rfl, rfl⟩

theorem Silent.trans {s t u : State} (h : Silent s t) (k : Silent t u) : Silent s u :=
  ⟨k.cfg.trans h.cfg, k.trace.trans h.trace⟩

/-- What follows a bus event in the same step adds no other. -/
theorem OneEvent.silent {s t u : State} (h : OneEvent s t) (k : Silent t u) : OneEvent s u := by
  obtain ⟨e, he, ht⟩ := h.trace
  exact ⟨k.cfg.trans h.cfg, e, he, k.trace.trans ht⟩

/-! ### The bus primitives -/

theorem csSet_oneEvent (l : Bool) (s : State) : OneEvent s (csSet l s) := ⟨rfl, .cs l, nofun, rfl⟩

theorem clkSet_oneEvent (r : ClockRate) (s : State) : OneEvent s (clkSet r s) := ⟨rfl, .clk r, nofun, rfl⟩

theorem exchange_oneEvent (o : Byte) (s : State) : OneEvent s (exchange o s) :=
  ⟨rfl, .xfer o (cardReply s), nofun, rfl⟩

theorem leaveError_silent (s : State) : Silent s (leaveError s) := ⟨leaveError_cfg s, leaveError_trace s⟩

theorem raise_silent (e : Error) (s : State) : Silent s (raise e s) := ⟨raise_cfg e s, raise_trace e s⟩

theorem spiXfer_oneEvent {o : Byte} {use : Byte → State → State} {s : State}
    (hu : ∀ b t, Silent t (use b t)) : OneEvent s (spiXfer o use s) := by
  rcases spiXfer_cases o use s with ⟨b, -, h⟩ | ⟨-, h⟩
  · exact h ▸ (exchange_oneEvent o s).silent (hu b _)
  · exact h ▸ (exchange_oneEvent o s).silent (raise_silent _ _)

theorem sendByte_oneEvent {o : Byte} {next : State → State} {s : State} (hn : ∀ t, Silent t (next t)) :
    OneEvent s (sendByte o next s) :=
  spiXfer_oneEvent (fun _ t => hn t)

theorem poll_oneEvent {hit : Byte → Bool} {limit : Nat} {site : ErrSite} {k : Nat} {again : Nat → Phase}
    {found : Byte → State → State} {s : State} (hf : ∀ b t, Silent t (found b t)) :
    OneEvent s (poll hit limit site k again found s) := by
  have hx : OneEvent s (exchange dummyByte s) := exchange_oneEvent dummyByte s
  rcases poll_cases hit limit site k again found s with
    ⟨b, -, -, h⟩ | ⟨b, -, -, -, h⟩ | ⟨b, -, -, -, h⟩ | ⟨-, h⟩
  · exact h ▸ hx.silent (hf b _)
  · exact h ▸ hx.silent ⟨rfl, rfl⟩
  · exact h ▸ hx.silent (raise_silent _ _)
  · exact h ▸ hx.silent (raise_silent _ _)

/-! ### The lines between two bus events -/

theorem enterLoop_silent {n : Nat} {first : Phase} {done : State → State} (hd : ∀ s, Silent s (done s)) (s : State) :
    Silent s (enterLoop n first done s) := by
  rcases enterLoop_cases n first done s with ⟨-, h⟩ | ⟨-, h⟩
  · exact h ▸ ⟨rfl, rfl⟩
  · exact h ▸ hd s

theorem nextIteration_silent {k n : Nat} {again : Nat → Phase} {done : State → State} (hd : ∀ s, Silent s (done s))
    (s : State) : Silent s (nextIteration k n again done s) := by
  rcases nextIteration_cases k n again done s with ⟨-, h⟩ | ⟨-, h⟩
  · exact h ▸ ⟨rfl, rfl⟩
  · exact h ▸ hd s

theorem startTxn_silent (c : Cmd) (s : State) : Silent s (startTxn c s) := ⟨rfl, rfl⟩

theorem readyFrame_silent (c : Cmd) (s : State) : Silent s (readyFrame c s) := ⟨rfl, rfl⟩

theorem startEnd_silent (c : Cmd) (r : Option Byte) (s : State) : Silent s (startEnd c r s) := ⟨rfl, rfl⟩

theorem startTail_silent (c : Cmd) (s : State) : Silent s (startTail c s) := by
  cases c <;> exact ⟨rfl, rfl⟩

theorem gotR1_silent (c : Cmd) (b : Byte) (s : State) : Silent s (gotR1 c b s) := by
  cases c <;> exact ⟨rfl, rfl⟩

theorem gotFour_silent (c : Cmd) (v : Word) (s : State) : Silent s (gotFour c v s) := by
  cases c <;> exact ⟨rfl, rfl⟩

theorem gotData_silent (c : Cmd) (i : Nat) (b : Byte) (s : State) : Silent s (gotData c i b s) := by
  have hw : Silent s (s.writeByte (dataBase c + i) b) := ⟨rfl, rfl⟩
  unfold gotData
  split
  · exact hw.trans ⟨rfl, rfl⟩
  · exact hw.trans (enterLoop_silent (startEnd_silent c none) _)

theorem gotDataResponse_silent (d : Byte) (s : State) : Silent s (gotDataResponse d s) := by
  have hd : Silent s { s with dresp := d } := ⟨rfl, rfl⟩
  unfold gotDataResponse
  dsimp only
  split
  · split <;> exact ⟨rfl, rfl⟩
  · exact hd.trans (raise_silent _ _)

theorem storeR1_silent (r : Option Byte) (s : State) : Silent s (storeR1 r s) := by
  cases r <;> exact ⟨rfl, rfl⟩

/-- A check between two bus events: it raises an error, or the request goes on (R477, R480). -/
theorem checkOrRaise_silent {p : Prop} [Decidable p] {e : Error} {s t : State} (h : Silent s t) :
    Silent s (if p then raise e s else t) := by
  split
  · exact raise_silent e s
  · exact h

theorem afterReset_silent (s : State) : Silent s (afterReset s) := checkOrRaise_silent ⟨rfl, rfl⟩

theorem afterVoltageCheck_silent (s : State) : Silent s (afterVoltageCheck s) := checkOrRaise_silent ⟨rfl, rfl⟩

theorem afterOpCond_silent (s : State) : Silent s (afterOpCond s) := by
  unfold afterOpCond
  split
  · exact checkOrRaise_silent ⟨rfl, rfl⟩
  · exact ⟨rfl, rfl⟩

theorem afterReadOcr_silent (s : State) : Silent s (afterReadOcr s) :=
  checkOrRaise_silent (by split <;> exact ⟨rfl, rfl⟩)

theorem afterCsd_silent (s : State) : Silent s (afterCsd s) := by
  unfold afterCsd
  dsimp only
  split <;> exact ⟨rfl, rfl⟩

/-- The lines that follow a transaction, up to the next bus event, record none (R9). -/
theorem endTxn_silent (c : Cmd) (r : Option Byte) (s : State) : Silent s (endTxn c r s) := by
  have hr : Silent s (storeR1 r s) := storeR1_silent r s
  cases c with
  | cmd0 => exact hr.trans (afterReset_silent _)
  | cmd8 => exact afterVoltageCheck_silent s
  | cmd55 => exact hr.trans ⟨rfl, rfl⟩
  | acmd41 => exact hr.trans (afterOpCond_silent _)
  | cmd58 => exact afterReadOcr_silent s
  | cmd17 => exact ⟨rfl, rfl⟩
  | cmd24 => exact ⟨rfl, rfl⟩
  | cmd9 => exact afterCsd_silent s

/-! ### The controller's moves -/

theorem sendFrame_oneEvent (c : Cmd) (f : FrameWord) (s : State) : OneEvent s (sendFrame c f s) :=
  sendByte_oneEvent (fun _ => ⟨rfl, rfl⟩)

/-- With no request running the sequencer does nothing (R703, R727). -/
theorem seqStep_idle {s : State} (h : s.phase = .idle) : seqStep s = s := by
  simp [seqStep, h]

/-- One bus event a step of the sequencer (R9). -/
theorem seqStep_oneEvent {s : State} (hidle : s.phase ≠ .idle) (hissue : ∀ f, s.phase ≠ .issue f) :
    OneEvent s (seqStep s) := by
  unfold seqStep
  cases hp : s.phase with
  | idle => exact absurd hp hidle
  | issue f => exact absurd hp (hissue f)
  | clkSlow => exact (clkSet_oneEvent .slow s).silent ⟨rfl, rfl⟩
  | preambleCs => exact (csSet_oneEvent true s).silent (enterLoop_silent (startTxn_silent .cmd0) _)
  | powerDummy k => exact sendByte_oneEvent (nextIteration_silent (startTxn_silent .cmd0))
  | select c => exact (csSet_oneEvent false s).silent (enterLoop_silent (readyFrame_silent c) _)
  | preDummy c k => exact sendByte_oneEvent (nextIteration_silent (readyFrame_silent c))
  | frame c f j =>
    refine sendByte_oneEvent fun t => ?_
    split
    · exact ⟨rfl, rfl⟩
    · exact startTail_silent c t
  | pollR1 c k => exact poll_oneEvent (gotR1_silent c)
  | readFour c j v =>
    refine spiXfer_oneEvent fun b t => ?_
    split
    · exact ⟨rfl, rfl⟩
    · exact gotFour_silent c _ t
  | pollToken c k => exact poll_oneEvent (fun _ _ => ⟨rfl, rfl⟩)
  | readData c i => exact spiXfer_oneEvent (gotData_silent c i)
  | trailer c j => exact sendByte_oneEvent (nextIteration_silent (startEnd_silent c none))
  | sendToken => exact sendByte_oneEvent (fun _ => ⟨rfl, rfl⟩)
  | sendData i =>
    refine sendByte_oneEvent fun t => ?_
    split <;> exact ⟨rfl, rfl⟩
  | sendCrc0 => exact sendByte_oneEvent (fun _ => ⟨rfl, rfl⟩)
  | sendCrc1 => exact sendByte_oneEvent (fun _ => ⟨rfl, rfl⟩)
  | pollDresp k => exact poll_oneEvent gotDataResponse_silent
  | pollBusy k => exact poll_oneEvent (fun _ => startEnd_silent .cmd24 none)
  | deselect c r => exact (csSet_oneEvent true s).silent (enterLoop_silent (endTxn_silent c r) _)
  | postDummy c r k => exact sendByte_oneEvent (nextIteration_silent (endTxn_silent c r))
  | clkFast => exact (clkSet_oneEvent .fast s).silent ⟨rfl, rfl⟩
  | errorExit => exact (csSet_oneEvent true s).silent (leaveError_silent _)

/-! ### The host's moves -/

theorem present_silent {op : Byte} {needsReady : Bool} {start : State → State} (hs : ∀ s, Silent s (start s))
    (s : State) : Silent s (present op needsReady start s) := by
  have ha : Silent s (accept op s) := ⟨rfl, rfl⟩
  rcases present_cases op needsReady start s with ⟨-, h⟩ | ⟨-, -, h⟩ | ⟨-, -, h⟩
  · exact h ▸ ⟨rfl, rfl⟩
  · exact h ▸ ha.trans (hs _)
  · exact h ▸ ⟨rfl, rfl⟩

theorem presentReserved_silent (s : State) : Silent s (presentReserved s) := by
  unfold presentReserved
  split <;> exact ⟨rfl, rfl⟩

theorem runRequest_silent {v : Word} {s t : State} (h : runRequest v s = .next t) : Silent s t := by
  rcases runRequest_cases h with (rfl | rfl | rfl | rfl | rfl) | rfl
  · exact present_silent (start := startInit) (fun _ => ⟨rfl, rfl⟩) s
  · exact present_silent (start := startReadBlock) (fun _ => ⟨rfl, rfl⟩) s
  · exact present_silent (start := startWriteBlock) (fun _ => ⟨rfl, rfl⟩) s
  · exact present_silent (start := startReadCsd) (fun _ => ⟨rfl, rfl⟩) s
  · exact present_silent (start := startGetCapacity) (fun _ => ⟨rfl, rfl⟩) s
  · exact presentReserved_silent s

theorem afterRead_silent (w : Width) (off : Offset) (s : State) : Silent s (afterRead w off s) := by
  unfold afterRead
  repeat' split
  all_goals exact ⟨rfl, rfl⟩

theorem portRead_silent (w : Width) (off : Offset) (s : State) : Silent s (portRead w off s) :=
  (afterRead_silent w off s).trans ⟨rfl, rfl⟩

theorem readStatusThen_silent (target : Word → Nat) (s : State) : Silent s (readStatusThen target s) :=
  (portRead_silent .word 0x008 s).trans ⟨rfl, rfl⟩

theorem idleWrite_silent (off : Offset) (v : Word) (s : State) : Silent s (idleWrite off v s) := by
  unfold idleWrite
  split <;> exact ⟨rfl, rfl⟩

theorem portWrite_silent (w : Width) (off : Offset) (v : Word) (s : State) : Silent s (portWrite w off v s) := by
  unfold portWrite
  split
  · exact idleWrite_silent off v s
  · exact ⟨rfl, rfl⟩

theorem setHpc_silent (s : State) (n : Nat) : Silent s { s with hpc := n } := ⟨rfl, rfl⟩

/-- The state a host move leaves, the one a request is run on included. -/
def HostMove.state : HostMove → State
  | .done s => s
  | .request _ s => s

/-- The host's access, or its moving on in its program, records no bus event. -/
theorem hostMove_silent (s : State) : Silent s (hostMove s).state := by
  unfold hostMove
  cases s.program[s.hpc]? with
  | none => exact .refl s
  | some line =>
    cases line with
    | halt => exact .refl s
    | rd w off => exact (setHpc_silent s _).trans (portRead_silent w off _)
    | wr w off v =>
      dsimp only
      split
      · exact setHpc_silent s _
      · exact (setHpc_silent s _).trans (portWrite_silent w off v _)
    | waitIdle =>
      dsimp only [HostMove.state]
      exact readStatusThen_silent _ s
    | berr target =>
      dsimp only [HostMove.state]
      exact readStatusThen_silent _ s
    | branch target => exact setHpc_silent s target

/-! ### Whose move it is -/

theorem takeTurn_silent (s : State) : Silent s (takeTurn s) := ⟨rfl, rfl⟩

/-- A host move records no bus event, whatever it is (R9). -/
theorem advance_host_silent {s t : State} (h : advance s = .next t) (hw : whoMoves s = .host) : Silent s t := by
  have hs : Silent s (hostMove (takeTurn s)).state := (takeTurn_silent s).trans (hostMove_silent _)
  rcases advance_cases h with ⟨hw', -⟩ | ⟨-, hm | ⟨v, u, hm, hr⟩⟩ | ⟨hw', -⟩
  · exact nomatch hw.symm.trans hw'
  · rw [hm] at hs; exact hs
  · rw [hm] at hs; exact hs.trans (runRequest_silent hr)
  · exact nomatch hw.symm.trans hw'

/-- On the controller's turn with no request running, only the move is taken. -/
theorem advance_controller_idle {s t : State} (h : advance s = .next t) (hw : whoMoves s = .controller)
    (hp : s.phase = .idle) : t = takeTurn s := by
  rcases advance_cases h with ⟨hw', -⟩ | ⟨hw', -⟩ | ⟨-, ⟨f, c, a, hf, -⟩ | ⟨-, rfl⟩⟩
  · exact nomatch hw.symm.trans hw'
  · exact nomatch hw.symm.trans hw'
  · exact nomatch hp.symm.trans hf
  · exact seqStep_idle hp

/-- A move of the running controller records exactly one bus event (R9). -/
theorem advance_controller_oneEvent {s t : State} (h : advance s = .next t) (hw : whoMoves s = .controller)
    (hp : s.phase ≠ .idle) : OneEvent s t := by
  have key : OneEvent (takeTurn s) t := by
    rcases advance_cases h with ⟨hw', -⟩ | ⟨hw', -⟩ | ⟨-, ⟨f, c, a, -, -, rfl⟩ | ⟨hi, rfl⟩⟩
    · exact nomatch hw.symm.trans hw'
    · exact nomatch hw.symm.trans hw'
    · exact sendFrame_oneEvent c _ _
    · exact seqStep_oneEvent hp hi
  exact ⟨key.cfg, key.trace⟩

/-- No move of any agent writes the configuration (R101). -/
theorem advance_cfg {s t : State} (h : advance s = .next t) : t.cfg = s.cfg := by
  cases hw : whoMoves s with
  | host => exact (advance_host_silent h hw).cfg
  | controller =>
    by_cases hp : s.phase = .idle
    · rw [advance_controller_idle h hw hp, takeTurn_cfg]
    · exact (advance_controller_oneEvent h hw hp).cfg
  | platformReset =>
    rcases advance_cases h with ⟨-, rfl⟩ | ⟨hw', -⟩ | ⟨hw', -⟩
    · rfl
    · exact nomatch hw.symm.trans hw'
    · exact nomatch hw.symm.trans hw'

/-- The default FRAME_CRC table lists the CRC bytes of CMD0 and CMD8 alone (R6). -/
theorem defaultFrameCrc_lookup (i : BitVec 6) :
    Config.defaultFrameCrc.lookup i = if i = 0 then 0x95 else if i = 8 then 0x87 else 0x01 := by
  by_cases h0 : i = 0
  · subst h0; decide
  by_cases h8 : i = 8
  · subst h8; decide
  · have e0 : ((0 : BitVec 6) == i) = false := beq_false_of_ne (Ne.symm h0)
    have e8 : ((8 : BitVec 6) == i) = false := beq_false_of_ne (Ne.symm h8)
    rw [if_neg h0, if_neg h8]
    simp only [Config.defaultFrameCrc, FrameCrc.lookup, List.find?_cons, List.find?_nil, e0, e8]

end Sys2Proof.Machine

/-! The statements of the scope file (spec/00_scope.md). -/

namespace Sys2Proof.Proofs

open Sys2Proof Sys2Proof.Machine

/-- Settles O8: the step that answers is a move of the agent whose turn it is, and each agent's move has its lemma. -/
theorem oneBusEventAStep : Obligations.OneBusEventAStep := by
  unfold Obligations.OneBusEventAStep
  intro s t h
  have ha : advance s = .next t := (advance_of_step h).2
  exact ⟨fun hw hp => (advance_controller_oneEvent ha hw hp).trace, advance_controller_idle ha,
    fun hw => (advance_host_silent ha hw).trace⟩

/-- Settles O60: `advance_cfg` over all moves, and R6's defaults read off `Config.thisHardware`. -/
theorem configurationNeverChanges : Obligations.ConfigurationNeverChanges := by
  unfold Obligations.ConfigurationNeverChanges
  exact ⟨fun _ _ => advance_cfg, thisHardware_wf, rfl, rfl, rfl, defaultFrameCrc_lookup, rfl, rfl, rfl, rfl, rfl,
    rfl, rfl, rfl⟩

end Sys2Proof.Proofs
end

section
/-! SUPPORT. What a move of the host can come to, said once: an access that leaves the block alone, a violation, a write
to ADDR or BUF, or a request presented (spec/10_state.md R111, spec/20_memory.md R211 to R215, spec/60_exceptions.md
R611, R620, R622). -/

namespace Sys2Proof.Machine

/-! ### Requests -/

/-- The lines of a request up to its first bus event (R471, R501, R511, R531, R541). -/
def requestStart : Instr → State → State
  | .init => startInit
  | .readBlock => startReadBlock
  | .writeBlock => startWriteBlock
  | .readCsd => startReadCsd
  | .getCapacity => startGetCapacity
  | .cmd0 | .cmd8 | .cmd55 | .acmd41 | .cmd17 _ | .cmd24 _ | .cmd58 | .cmd9 => id

/-- The five requests and their opcodes (R321). -/
theorem request_cases {i : Instr} {op : Byte} (h : i.opcode = some op) :
    (i = .init ∧ op = opInit) ∨ (i = .readBlock ∧ op = opReadBlock) ∨ (i = .writeBlock ∧ op = opWriteBlock) ∨
    (i = .readCsd ∧ op = opReadCsd) ∨ (i = .getCapacity ∧ op = opGetCapacity) := by
  cases i <;> simp_all [Instr.opcode]

/-- The meaning of every request is one shared operation: its opcode is presented, INIT needing READY = 0 and the others
READY = 1. -/
theorem exec_request {i : Instr} {op : Byte} (h : i.opcode = some op) (s : State) :
    exec i s = .next (present op (decide (i ≠ .init)) (requestStart i) s) := by
  rcases request_cases h with ⟨rfl, rfl⟩ | ⟨rfl, rfl⟩ | ⟨rfl, rfl⟩ | ⟨rfl, rfl⟩ | ⟨rfl, rfl⟩ <;> rfl

/-- A word that decodes to a request carries that request's opcode. -/
theorem decodeRequest_opcode {v : Word} {i : Instr} (h : decodeRequest v = .ok i) : ∃ op, i.opcode = some op := by
  rcases decodeOpcode_ok h with ⟨-, rfl⟩ | ⟨-, rfl⟩ | ⟨-, rfl⟩ | ⟨-, rfl⟩ | ⟨-, rfl⟩ <;> exact ⟨_, rfl⟩

/-- What a REQ write of `v` makes of the state it is run on. -/
inductive Presented (v : Word) (s : State) : State → Prop
  /-- R622 -/
  | violates (busy : s.busy = true) : Presented v s (violation s)
  /-- R620 -/
  | refused (cause : ErrCause) (idle : s.busy = false)
      (table : cause = .reservedOp ∨ cause = .notInitialized ∨ cause = .alreadyInitialized) :
      Presented v s (refuse cause s)
  /-- R611 -/
  | accepted (i : Instr) (op : Byte) (word : decodeRequest v = .ok i) (opcode : i.opcode = some op)
      (idle : s.busy = false) (needs : s.ready = decide (i ≠ .init)) : Presented v s (requestStart i (accept op s))

theorem runRequest_presented {v : Word} {s t : State} (h : runRequest v s = .next t) : Presented v s t := by
  unfold runRequest at h
  split at h
  · next i hi =>
    obtain ⟨op, hop⟩ := decodeRequest_opcode hi
    rw [exec_request hop] at h
    obtain rfl := Host.Outcome.next.inj h
    rcases present_cases op (decide (i ≠ .init)) (requestStart i) s with ⟨hb, e⟩ | ⟨hb, hr, e⟩ | ⟨hb, -, e⟩ <;> rw [e]
    · exact .violates hb
    · exact .accepted i op hi hop hb hr
    · exact .refused _ hb (by split <;> simp)
  · obtain rfl := Host.Outcome.next.inj h
    unfold presentReserved
    split
    · next hb => exact .violates hb
    · next hb => exact .refused _ (by simpa using hb) (.inl rfl)

/-! ### Accesses -/

/-- The offset of ADDR (R110). -/
theorem placeOf_addr {off : Offset} (h : placeOf off = .reg .addr) : off = 0x004 := by
  revert off
  decide

/-- The one width of a well-formed access to a register, and to a byte of BUF (R210). -/
theorem wellFormedAccess_reg {w : Width} {off : Offset} {r : PortReg} (h : wellFormedAccess w off = true)
    (hp : placeOf off = .reg r) : w = .word := by
  cases w with
  | word => rfl
  | byte => simp [wellFormedAccess, hp] at h

theorem wellFormedAccess_buf {w : Width} {off : Offset} (h : wellFormedAccess w off = true)
    (hp : placeOf off = .buf) : w = .byte := by
  cases w with
  | byte => rfl
  | word => simp [wellFormedAccess, hp] at h

/-- What a host move that presents no request makes of the state; the host's position, its replies and the draw counter
are its own (R211 to R215, R325). -/
inductive HostDone (s : State) : State → Prop
  | own (hpc : Nat) (replies : List Reply) (draws : Nat) :
      HostDone s { s with hpc := hpc, replies := replies, draws := draws }
  | marked (hpc : Nat) (replies : List Reply) :
      HostDone s { violation s with hpc := hpc, replies := replies }
  | wroteAddr (v : Word) (line : s.program[s.hpc]? = some (.wr .word 0x004 v)) (idle : s.busy = false) :
      HostDone s { s with addr := v, hpc := s.hpc + 1 }
  | wroteBuf (off : Offset) (v : Word) (line : s.program[s.hpc]? = some (.wr .byte off v)) (idle : s.busy = false)
      (inBuf : 0x200 ≤ off.toNat) :
      HostDone s { s.writeByte off.toNat (v.setWidth 8) with bufValid := false, hpc := s.hpc + 1 }

/-- A read leaves the block alone, or is the violation of an ill-formed access. -/
theorem afterRead_cases (w : Width) (off : Offset) (s : State) :
    (∃ n, afterRead w off s = { s with draws := n }) ∨ afterRead w off s = violation s := by
  unfold afterRead
  split
  · split
    · exact .inl ⟨s.draws, rfl⟩
    · split
      · exact .inl ⟨s.draws + 1, rfl⟩
      · exact .inl ⟨s.draws, rfl⟩
  · exact .inr rfl

theorem portRead_cases (w : Width) (off : Offset) (s : State) :
    ∃ r, (∃ n, portRead w off s = { s with draws := n, replies := r }) ∨
      portRead w off s = { violation s with replies := r } := by
  refine ⟨s.replies ++ [{ off := off, value := readValue w off s }], ?_⟩
  unfold portRead
  rcases afterRead_cases w off s with ⟨n, e⟩ | e <;> rw [e]
  · exact .inl ⟨n, rfl⟩
  · exact .inr rfl

theorem portRead_done (w : Width) (off : Offset) (s : State) (n : Nat) :
    HostDone s (portRead w off { s with hpc := n }) := by
  obtain ⟨r, ⟨d, e⟩ | e⟩ := portRead_cases w off { s with hpc := n } <;> rw [e]
  · exact .own n r d
  · exact .marked n r

theorem readStatusThen_done (target : Word → Nat) (s : State) : HostDone s (readStatusThen target s) := by
  unfold readStatusThen
  obtain ⟨r, ⟨d, e⟩ | e⟩ := portRead_cases .word 0x008 s <;> rw [e]
  · exact .own _ r d
  · exact .marked _ r

theorem portWrite_done {w : Width} {off : Offset} {v : Word} {s : State}
    (line : s.program[s.hpc]? = some (.wr w off v)) :
    HostDone s (portWrite w off v { s with hpc := s.hpc + 1 }) := by
  unfold portWrite
  split
  · next hw =>
    simp only [Bool.and_eq_true, Bool.not_eq_true'] at hw
    obtain ⟨hwf, idle⟩ := hw
    unfold idleWrite
    split
    case h_1 hp =>
      obtain rfl := wellFormedAccess_reg hwf hp
      obtain rfl := placeOf_addr hp
      exact .wroteAddr v line idle
    case h_2 hp =>
      obtain rfl := wellFormedAccess_buf hwf hp
      exact .wroteBuf off v line idle (placeOf_buf hp)
    all_goals exact .own (s.hpc + 1) s.replies s.draws
  · exact .marked (s.hpc + 1) s.replies

/-- A host move either does its access, or presents the request of a REQ write. -/
theorem hostMove_cases (s : State) :
    (∃ t, hostMove s = .done t ∧ HostDone s t) ∨
    (∃ v, s.program[s.hpc]? = some (.wr .word 0x000 v) ∧ hostMove s = .request v { s with hpc := s.hpc + 1 }) := by
  unfold hostMove
  cases hl : s.program[s.hpc]? with
  | none => exact .inl ⟨s, rfl, .own s.hpc s.replies s.draws⟩
  | some line =>
    cases line with
    | halt => exact .inl ⟨s, rfl, .own s.hpc s.replies s.draws⟩
    | rd w off => exact .inl ⟨_, rfl, portRead_done w off s (s.hpc + 1)⟩
    | wr w off v =>
      by_cases h : w = .word ∧ off = 0x000
      · obtain ⟨rfl, rfl⟩ := h
        exact .inr ⟨v, rfl, rfl⟩
      · exact .inl ⟨_, by simp only [h, if_false], portWrite_done hl⟩
    | waitIdle => exact .inl ⟨_, rfl, readStatusThen_done _ s⟩
    | berr target => exact .inl ⟨_, rfl, readStatusThen_done _ s⟩
    | branch target => exact .inl ⟨_, rfl, .own target s.replies s.draws⟩

/-- What a move of the host comes to, whatever the run has done before. -/
theorem advance_host {s t : State} (h : advance s = .next t) (hw : whoMoves s = .host) :
    HostDone (takeTurn s) t ∨
    ∃ v, s.program[s.hpc]? = some (.wr .word 0x000 v) ∧ Presented v { takeTurn s with hpc := s.hpc + 1 } t := by
  rcases advance_cases h with ⟨hw', -⟩ | ⟨-, hm⟩ | ⟨hw', -⟩
  · exact nomatch hw.symm.trans hw'
  · rcases hostMove_cases (takeTurn s) with ⟨u, e, hd⟩ | ⟨v, hl, e⟩
    · rcases hm with hm | ⟨v, u', hm, -⟩
      · exact .inl (HostMove.done.inj (e.symm.trans hm) ▸ hd)
      · exact nomatch e.symm.trans hm
    · rcases hm with hm | ⟨v', u', hm, hr⟩
      · exact nomatch e.symm.trans hm
      · obtain ⟨rfl, rfl⟩ := HostMove.request.inj (e.symm.trans hm)
        exact .inr ⟨v, hl, runRequest_presented hr⟩
  · exact nomatch hw.symm.trans hw'

end Sys2Proof.Machine
end

section
/-! SUPPORT. Every move keeps the invariant of the control state: the sequencer phase by phase, the host and the
platform move by move (spec/10_state.md R130 to R133, spec/42_bus_transactions.md R436). -/

namespace Sys2Proof.Machine

/-! ### The frame about to be sent -/

/-- The command of a frame's instruction; `cmd0` for a request, which has none. -/
def Instr.command : Instr → Cmd
  | .init | .readBlock | .writeBlock | .readCsd | .getCapacity | .cmd0 => .cmd0
  | .cmd8 => .cmd8
  | .cmd55 => .cmd55
  | .acmd41 => .acmd41
  | .cmd17 _ => .cmd17
  | .cmd24 _ => .cmd24
  | .cmd58 => .cmd58
  | .cmd9 => .cmd9

theorem command_instr (c : Cmd) (a : Word) : Instr.command (c.instr a) = c := by cases c <;> rfl

/-- A command frame's instruction tells the command and its argument. -/
theorem instr_inj {c d : Cmd} {a b : Word} (h : c.instr a = d.instr b) : c = d ∧ c.argument a = d.argument b := by
  obtain rfl : c = d := by rw [← command_instr c a, h, command_instr]
  refine ⟨rfl, ?_⟩
  cases c with
  | cmd17 => exact Instr.cmd17.inj h
  | cmd24 => exact Instr.cmd24.inj h
  | cmd0 | cmd8 | cmd55 | acmd41 | cmd58 | cmd9 => rfl

/-- The frame that stands ready decodes to the command of the running transaction, and is assembled again as it stands
(R401, R411). -/
theorem issue_owner {s : State} {f : FrameWord} {c : Cmd} {a : Word} (h : positionOk s) (hp : s.phase = .issue f)
    (hd : decodeFrame f = .ok (c.instr a)) :
    inTxn s c ∧ assembleFrame s.cfg.frameCrc c.index (c.argument a) = frameOf c s := by
  simp only [positionOk, hp] at h
  obtain ⟨d, hin, rfl⟩ := h
  have hf : decodeFrame (frameOf d s) = .ok (d.instr s.aLat) := decodeFrame_assembleFrame _ d s.aLat
  obtain ⟨rfl, ha⟩ := instr_inj (Except.ok.inj (hf.symm.trans hd))
  exact ⟨hin, by rw [← ha, frameOf]⟩

/-! ### Loops and new phases -/

theorem goto_inv {s : State} {p : Phase} (b : Running s) (pos : positionOk { s with phase := p })
    (level : s.csN = phaseLevel p) (hp : p ≠ .idle) : Inv { s with phase := p } :=
  inv_of_running (phase_running b) pos level hp

theorem enterLoop_inv {n : Nat} {first : Phase} {done : State → State} {s : State}
    (hf : 0 < n → Inv { s with phase := first }) (hd : Inv (done s)) : Inv (enterLoop n first done s) := by
  rcases enterLoop_cases n first done s with ⟨hn, e⟩ | ⟨-, e⟩ <;> rw [e]
  · exact hf hn
  · exact hd

theorem nextIteration_inv {k n : Nat} {again : Nat → Phase} {done : State → State} {s : State}
    (ha : k < n → Inv { s with phase := again (k + 1) }) (hd : Inv (done s)) :
    Inv (nextIteration k n again done s) := by
  rcases nextIteration_cases k n again done s with ⟨hk, e⟩ | ⟨-, e⟩ <;> rw [e]
  · exact ha hk
  · exact hd

/-! ### The lines that use a received byte -/

/-- The tail of a command starts at its first byte (R432): the limits of R6 are at least 1. -/
theorem startTail_inv {c : Cmd} {s : State} (b : Running s) (h : inTxn s c) (hc : s.csN = false) :
    Inv (startTail c s) := by
  have hwf := b.cfg_ok
  simp only [Params.wf, Bool.and_eq_true, decide_eq_true_eq] at hwf
  obtain ⟨⟨⟨⟨⟨-, hr1⟩, htok⟩, -⟩, -⟩, -⟩ := hwf
  cases c with
  | cmd0 | cmd8 | cmd55 | acmd41 | cmd58 => exact goto_inv b ⟨h, rfl, Nat.le_refl 1, hr1⟩ hc nofun
  | cmd17 => exact goto_inv b ⟨h, .inl rfl, Nat.le_refl 1, htok⟩ hc nofun
  | cmd9 => exact goto_inv b ⟨h, .inr rfl, Nat.le_refl 1, htok⟩ hc nofun
  | cmd24 => exact goto_inv b h hc nofun

theorem startEnd_inv {c : Cmd} {r : Option Byte} {s : State} (b : Running s) (h : inTxn s c) (hc : s.csN = false) :
    Inv (startEnd c r s) :=
  goto_inv b h hc nofun

theorem gotR1_inv {c : Cmd} {v : Byte} {s : State} (b : Running s) (h : inTxn s c) (hc : s.csN = false) :
    Inv (gotR1 c v s) := by
  have b1 : Running { s with r1 := v } := running_congr b rfl rfl rfl rfl rfl rfl rfl rfl rfl rfl rfl rfl rfl
  cases c with
  | cmd8 => exact goto_inv b1 ⟨h, .inl rfl, by decide, by decide⟩ hc nofun
  | cmd58 => exact goto_inv b1 ⟨h, .inr rfl, by decide, by decide⟩ hc nofun
  | cmd0 | cmd55 | acmd41 | cmd17 | cmd24 | cmd9 => exact startEnd_inv b h hc

theorem gotFour_inv {c : Cmd} {v : Word} {s : State} (b : Running s) (h : inTxn s c) (hc : s.csN = false) :
    Inv (gotFour c v s) := by
  cases c with
  | cmd8 => exact startEnd_inv (running_congr b rfl rfl rfl rfl rfl rfl rfl rfl rfl rfl rfl rfl rfl) h hc
  | cmd58 => exact startEnd_inv (running_congr b rfl rfl rfl rfl rfl rfl rfl rfl rfl rfl rfl rfl rfl) h hc
  | cmd0 | cmd55 | acmd41 | cmd17 | cmd24 | cmd9 => exact startEnd_inv b h hc

/-- The byte of index `i` of a data phase lies in the buffer that the command fills (R201, R202). -/
theorem dataByte_inWindow {c : Cmd} {i : Nat} (hc : c = .cmd17 ∨ c = .cmd9) (hi : i < dataSize c) :
    (csdBase ≤ dataBase c + i ∧ dataBase c + i < csdBase + csdSize) ∨
    (bufBase ≤ dataBase c + i ∧ dataBase c + i < bufBase + bufSize) := by
  rcases hc with rfl | rfl <;> simp only [dataBase, dataSize] at * <;> omega

theorem writeByte_running {s : State} {a : Nat} {v : Byte} (b : Running s)
    (ha : (csdBase ≤ a ∧ a < csdBase + csdSize) ∨ (bufBase ≤ a ∧ a < bufBase + bufSize)) :
    Running (s.writeByte a v) :=
  ⟨b.cfg_ok, memory_write_wf a v b.mem_ok, memory_write_inWindows v b.mem_windows ha, b.clock, b.att, b.err, b.ef,
    b.busy, b.mark⟩

theorem gotData_inv {c : Cmd} {i : Nat} {v : Byte} {s : State} (b : Running s) (h : inTxn s c)
    (hc : c = .cmd17 ∨ c = .cmd9) (hi : i < dataSize c) (hs : s.csN = false) : Inv (gotData c i v s) := by
  have bw : Running (s.writeByte (dataBase c + i) v) := writeByte_running b (dataByte_inWindow hc hi)
  unfold gotData
  split
  · next hlt => exact goto_inv bw ⟨h, hc, hlt⟩ hs nofun
  · exact enterLoop_inv (fun hn => goto_inv bw ⟨h, hc, Nat.le_refl 1, hn⟩ hs nofun) (startEnd_inv bw h hs)

theorem gotDataResponse_inv {d : Byte} {s : State} (b : Running s) (h : inTxn s .cmd24) (hs : s.csN = false) :
    Inv (gotDataResponse d s) := by
  have bd : Running { s with dresp := d } := running_congr b rfl rfl rfl rfl rfl rfl rfl rfl rfl rfl rfl rfl rfl
  have hwf := b.cfg_ok
  simp only [Params.wf, Bool.and_eq_true, decide_eq_true_eq] at hwf
  unfold gotDataResponse
  dsimp only
  split
  · split
    · next hw => exact goto_inv bd ⟨h, hw, Nat.le_refl 1, hwf.1.2⟩ hs nofun
    · exact startEnd_inv bd h hs
  · exact raise_inv bd (inTxn_not_init (c := .cmd24) h rfl) fun _ => ⟨.cmd24, h⟩

/-! ### The sequencer -/

theorem sendByte_inv {o : Byte} {next : State → State} {s : State} (b : Running s)
    (hc : s.csN = false → ∃ c, inTxn s c) (hn : Inv (next (exchange o s))) : Inv (sendByte o next s) :=
  spiXfer_inv b hc fun _ => hn

/-- The site of a command's poll is one of its request's (R603). -/
theorem token_site_allowed {s : State} {c : Cmd} (h : inTxn s c) (hc : c = .cmd17 ∨ c = .cmd9) :
    errorAllowed (.deviceNotResponding .tokenPoll) s :=
  .inr ⟨inTxn_not_init h (by rcases hc with rfl | rfl <;> rfl), .inl rfl⟩

theorem sendFrame_inv {c : Cmd} {s : State} (b : Running s) (h : inTxn s c) (hs : s.csN = false) :
    Inv (sendFrame c (frameOf c s) s) :=
  sendByte_inv b (fun _ => ⟨c, h⟩)
    (goto_inv (exchange_running b) ⟨h, rfl, Nat.le_refl 1, by decide⟩ hs nofun)

/-- Every step of the sequencer keeps the invariant, whatever the card answers. -/
theorem seqStep_inv {s : State} (h : Inv s) (hissue : ∀ f, s.phase ≠ .issue f) : Inv (seqStep s) := by
  by_cases hidle : s.phase = .idle
  · rwa [seqStep_idle hidle]
  have pos := h.position
  have level := h.level
  by_cases hexit : s.phase = .errorExit
  · simp only [seqStep, hexit]
    exact leaveError_inv h.cfg_ok h.mem_ok h.mem_windows h.clock h.error_fields rfl h.mark
  have b : Running s := running_of_inv h hidle hexit
  have bx (o : Byte) : Running (exchange o s) := exchange_running b
  have bs (l : Bool) : Running (csSet l s) := csSet_running b
  unfold positionOk at pos
  unfold seqStep
  cases hp : s.phase with
  | idle => exact absurd hp hidle
  | issue f => exact absurd hp (hissue f)
  | errorExit => exact absurd hp hexit
  | clkSlow =>
    simp only [hp] at pos level
    have hk : s.clkSel ≠ .fast := fun hf => by simpa [pos.2.2] using h.clock.1 hf
    have bk : Running (clkSet .slow s) :=
      { b with clock := ⟨nofun, fun hr => absurd (h.clock.2 hr) hk⟩ }
    exact goto_inv bk pos level nofun
  | preambleCs =>
    simp only [hp] at pos level
    exact enterLoop_inv (fun hn => goto_inv (bs true) ⟨pos, Nat.le_refl 1, hn⟩ rfl nofun)
      (goto_inv (bs true) ⟨pos.1, pos.2.1, pos.2.2⟩ rfl nofun)
  | powerDummy k =>
    simp only [hp] at pos level
    obtain ⟨hin, -, -⟩ := pos
    refine sendByte_inv b (by simp [level, phaseLevel]) (nextIteration_inv (fun hk => ?_) ?_)
    · exact goto_inv (bx _) ⟨hin, Nat.le_add_left 1 k, hk⟩ level nofun
    · exact goto_inv (bx _) ⟨hin.1, hin.2.1, hin.2.2⟩ level nofun
  | select c =>
    simp only [hp] at pos level
    exact enterLoop_inv (fun hn => goto_inv (bs false) ⟨pos, Nat.le_refl 1, hn⟩ rfl nofun)
      (goto_inv (bs false) ⟨c, pos, rfl⟩ rfl nofun)
  | preDummy c k =>
    simp only [hp] at pos level
    obtain ⟨hin, -, -⟩ := pos
    refine sendByte_inv b (fun _ => ⟨c, hin⟩) (nextIteration_inv (fun hk => ?_) ?_)
    · exact goto_inv (bx _) ⟨hin, Nat.le_add_left 1 k, hk⟩ level nofun
    · exact goto_inv (bx _) ⟨c, hin, rfl⟩ level nofun
  | frame c f j =>
    simp only [hp] at pos level
    obtain ⟨hin, rfl, -, -⟩ := pos
    refine sendByte_inv b (fun _ => ⟨c, hin⟩) ?_
    split
    · next hj => exact goto_inv (bx _) ⟨hin, rfl, Nat.le_add_left 1 j, hj⟩ level nofun
    · exact startTail_inv (bx _) hin level
  | pollR1 c k =>
    simp only [hp] at pos level
    obtain ⟨hin, hc, -, -⟩ := pos
    refine poll_inv b (fun _ => ⟨c, hin⟩) (.inl ⟨(inTxn_init hin hc).1, .inl rfl⟩) (fun v => ?_) (fun hk => ?_)
    · exact gotR1_inv (bx _) hin level
    · exact goto_inv (bx _) ⟨hin, hc, Nat.le_add_left 1 k, hk⟩ level nofun
  | readFour c j v =>
    simp only [hp] at pos level
    obtain ⟨hin, hc, -, -⟩ := pos
    refine spiXfer_inv b (fun _ => ⟨c, hin⟩) (fun v => ?_)
    split
    · next hj => exact goto_inv (bx _) ⟨hin, hc, Nat.le_add_left 1 j, hj⟩ level nofun
    · exact gotFour_inv (bx _) hin level
  | pollToken c k =>
    simp only [hp] at pos level
    obtain ⟨hin, hc, -, -⟩ := pos
    have hsize : 0 < dataSize c := by rcases hc with rfl | rfl <;> decide
    refine poll_inv b (fun _ => ⟨c, hin⟩) (token_site_allowed hin hc) (fun v => ?_) (fun hk => ?_)
    · exact goto_inv (bx _) ⟨hin, hc, hsize⟩ level nofun
    · exact goto_inv (bx _) ⟨hin, hc, Nat.le_add_left 1 k, hk⟩ level nofun
  | readData c i =>
    simp only [hp] at pos level
    obtain ⟨hin, hc, hi⟩ := pos
    exact spiXfer_inv b (fun _ => ⟨c, hin⟩) (fun v => gotData_inv (bx _) hin hc hi level)
  | trailer c j =>
    simp only [hp] at pos level
    obtain ⟨hin, hc, -, -⟩ := pos
    refine sendByte_inv b (fun _ => ⟨c, hin⟩) (nextIteration_inv (fun hk => ?_) ?_)
    · exact goto_inv (bx _) ⟨hin, hc, Nat.le_add_left 1 j, hk⟩ level nofun
    · exact startEnd_inv (bx _) hin level
  | sendToken =>
    simp only [hp] at pos level
    exact sendByte_inv b (fun _ => ⟨.cmd24, pos⟩) (goto_inv (bx _) ⟨pos, by decide⟩ level nofun)
  | sendData i =>
    simp only [hp] at pos level
    obtain ⟨hin, -⟩ := pos
    refine sendByte_inv b (fun _ => ⟨.cmd24, hin⟩) ?_
    split
    · next hi => exact goto_inv (bx _) ⟨hin, hi⟩ level nofun
    · exact goto_inv (bx _) hin level nofun
  | sendCrc0 =>
    simp only [hp] at pos level
    exact sendByte_inv b (fun _ => ⟨.cmd24, pos⟩) (goto_inv (bx _) pos level nofun)
  | sendCrc1 =>
    simp only [hp] at pos level
    have hwf := b.cfg_ok
    simp only [Params.wf, Bool.and_eq_true, decide_eq_true_eq] at hwf
    exact sendByte_inv b (fun _ => ⟨.cmd24, pos⟩)
      (goto_inv (bx _) ⟨pos, Nat.le_refl 1, hwf.1.1.2⟩ level nofun)
  | pollDresp k =>
    simp only [hp] at pos level
    obtain ⟨hin, -, -⟩ := pos
    have hsite : errorAllowed (.deviceNotResponding .drespPoll) s :=
      .inr ⟨inTxn_not_init hin rfl, .inr (.inl rfl)⟩
    refine poll_inv b (fun _ => ⟨.cmd24, hin⟩) hsite (fun v => gotDataResponse_inv (bx _) hin level) (fun hk => ?_)
    exact goto_inv (bx _) ⟨hin, Nat.le_add_left 1 k, hk⟩ level nofun
  | pollBusy k =>
    simp only [hp] at pos level
    obtain ⟨hin, hw, -, -⟩ := pos
    have hsite : errorAllowed (.deviceNotResponding .busyPoll) s :=
      .inr ⟨inTxn_not_init hin rfl, .inr (.inr rfl)⟩
    refine poll_inv b (fun _ => ⟨.cmd24, hin⟩) hsite (fun v => startEnd_inv (bx _) hin level) (fun hk => ?_)
    exact goto_inv (bx _) ⟨hin, hw, Nat.le_add_left 1 k, hk⟩ level nofun
  | deselect c r =>
    simp only [hp] at pos level
    exact enterLoop_inv (fun hn => goto_inv (bs true) ⟨pos, Nat.le_refl 1, hn⟩ rfl nofun)
      (endTxn_inv (bs true) pos rfl)
  | postDummy c r k =>
    simp only [hp] at pos level
    obtain ⟨hin, -, -⟩ := pos
    refine sendByte_inv b (by simp [level, phaseLevel]) (nextIteration_inv (fun hk => ?_) ?_)
    · exact goto_inv (bx _) ⟨hin, Nat.le_add_left 1 k, hk⟩ level nofun
    · exact endTxn_inv (bx _) hin level
  | clkFast =>
    simp only [hp] at pos level
    obtain ⟨⟨-, -, hr⟩, hraise⟩ := pos
    have hk : s.clkSel = .slow := by
      cases hc : s.clkSel with
      | slow => rfl
      | fast => simpa [hr] using h.clock.1 hc
    have bk : Running { clkSet .fast s with clkSel := .slow } := { b with clock := hk ▸ b.clock }
    exact completeInit_inv bk level (by simp [hraise])

/-! ### The host and the platform -/

/-- An idle block's phase (R130). -/
theorem idle_phase {s : State} (h : Inv s) (hb : s.busy = false) : s.phase = .idle := by
  by_contra hp
  simp [h.busy_iff.2 hp] at hb

/-- An acceptance starts its request in a state that meets the invariant (R611). -/
theorem requestStart_inv {i : Instr} {op : Byte} {s : State} (h : Inv s) (hb : s.busy = false)
    (ho : i.opcode = some op) (hr : s.ready = decide (i ≠ .init)) : Inv (requestStart i (accept op s)) := by
  have hc : s.csN = true := by simpa [idle_phase h hb, phaseLevel] using h.level
  have running (q : SeqState) (n : Nat)
      (att : attemptsOk { accept op s with seqState := q, attempts := n }) :
      Running { accept op s with seqState := q, attempts := n } :=
    ⟨h.cfg_ok, h.mem_ok, h.mem_windows, h.clock, att, rfl, ⟨rfl, rfl, rfl⟩, rfl, h.mark⟩
  rcases request_cases ho with ⟨rfl, rfl⟩ | ⟨rfl, rfl⟩ | ⟨rfl, rfl⟩ | ⟨rfl, rfl⟩ | ⟨rfl, rfl⟩
  · exact goto_inv (running .reset 0 rfl) ⟨rfl, rfl, hr⟩ hc nofun
  · exact goto_inv (running_congr (running .xferReadBlock s.attempts trivial) rfl rfl rfl rfl rfl rfl rfl rfl rfl rfl
      rfl rfl rfl) ⟨rfl, rfl, hr⟩ hc nofun
  · exact goto_inv (running .xferWriteBlock s.attempts trivial) ⟨rfl, rfl, hr⟩ hc nofun
  · exact goto_inv (running_congr (running .xferReadCsd s.attempts trivial) rfl rfl rfl rfl rfl rfl rfl rfl rfl rfl
      rfl rfl rfl) ⟨rfl, .inl rfl, hr⟩ hc nofun
  · exact goto_inv (running_congr (running .xferReadCsd s.attempts trivial) rfl rfl rfl rfl rfl rfl rfl rfl rfl rfl
      rfl rfl rfl) ⟨rfl, .inr rfl, hr⟩ hc nofun

theorem presented_inv {v : Word} {s t : State} (h : Inv s) (hp : Presented v s t) : Inv t := by
  cases hp with
  | violates => exact inv_of_host_fields h rfl fun _ => rfl
  | refused cause hb table => exact refuse_inv h hb table
  | accepted i op _ ho hb hr => exact requestStart_inv h hb ho hr

theorem hostDone_inv {s t : State} (h : Inv s) (hd : HostDone s t) : Inv t := by
  cases hd with
  | own => exact inv_of_host_fields h rfl h.mark
  | marked => exact inv_of_host_fields h rfl fun _ => rfl
  | wroteAddr => exact inv_of_host_fields h rfl h.mark
  | wroteBuf off v _ _ hbuf =>
    have hwin : bufBase ≤ off.toNat ∧ off.toNat < bufBase + bufSize := ⟨hbuf, off.isLt⟩
    exact ⟨h.cfg_ok, memory_write_wf _ _ h.mem_ok, memory_write_inWindows _ h.mem_windows (.inr hwin), h.busy_iff,
      h.position, h.level, h.clock, h.attempts, h.no_error_yet, h.error_fields, h.mark⟩

/-- A reset of an admitted configuration meets the invariant (R135). -/
theorem resetAt_inv {cfg : Params} (h : cfg.wf = true) (d : Nat) : Inv (State.resetAt cfg d) where
  cfg_ok := h
  mem_ok := memory_nil_wf
  mem_windows := memory_nil_inWindows
  busy_iff := ⟨nofun, fun hp => absurd rfl hp⟩
  position := rfl
  level := rfl
  clock := ⟨nofun, nofun⟩
  attempts := nofun
  no_error_yet := nofun
  error_fields := ⟨rfl, rfl, rfl⟩
  mark := nofun

theorem platformReset_inv {s : State} (h : s.cfg.wf = true) : Inv (platformReset s) :=
  { resetAt_inv h s.draws with mark := nofun }

theorem takeTurn_inv {s : State} (h : Inv s) : Inv (takeTurn s) := inv_of_host_fields h rfl h.mark

/-- Every move of every agent keeps the invariant. -/
theorem advance_inv {s t : State} (h : Inv s) (ha : advance s = .next t) : Inv t := by
  have hs : Inv (takeTurn s) := takeTurn_inv h
  cases hw : whoMoves s with
  | host =>
    rcases advance_host ha hw with hd | ⟨v, -, hp⟩
    · exact hostDone_inv hs hd
    · have hu : Inv { takeTurn s with hpc := s.hpc + 1 } := inv_of_host_fields hs rfl hs.mark
      exact presented_inv hu hp
  | controller =>
    rcases advance_cases ha with ⟨hw', -⟩ | ⟨hw', -⟩ | ⟨-, ⟨f, c, a, hp, hd, rfl⟩ | ⟨hi, rfl⟩⟩
    · exact nomatch hw.symm.trans hw'
    · exact nomatch hw.symm.trans hw'
    · obtain ⟨hin, hf⟩ := issue_owner hs.position hp hd
      have b : Running (takeTurn s) := running_of_inv hs (by simp [hp]) (by simp [hp])
      exact hf ▸ sendFrame_inv b hin (by simpa [hp, phaseLevel] using hs.level)
    · exact seqStep_inv hs hi
  | platformReset =>
    rcases advance_cases ha with ⟨-, rfl⟩ | ⟨hw', -⟩ | ⟨hw', -⟩
    · exact platformReset_inv hs.cfg_ok
    · exact nomatch hw.symm.trans hw'
    · exact nomatch hw.symm.trans hw'

end Sys2Proof.Machine
end

section
/-! SUPPORT. Every move keeps what BUF_VALID, CSD_VALID and CAP_VALID promise (spec/10_state.md R115 to R117,
spec/70_reset_and_hazards.md R723). -/

namespace Sys2Proof.Machine

/-! ### What is promised, and what the running request has withheld -/

/-- What each set flag promises, whatever the running request has filled (R723). -/
def promises (s : State) : Prop :=
  (s.bufValid = true → s.mem.holds bufBase bufSize) ∧ (s.csdValid = true → s.mem.holds csdBase csdSize) ∧
  (s.capValid = true → s.capKib = capKibOf s.csize)

/-- A transaction runs whose request has set none of its flags. -/
def withholds (s : State) : Prop := ∃ c, inTxn s c ∧ filling s c 0

theorem resultsOk_iff {s : State} : ResultsOk s ↔ promises s ∧ fillOk s :=
  ⟨fun h => ⟨⟨h.buf, h.csd, h.cap⟩, h.fill⟩, fun ⟨⟨buf, csd, cap⟩, fill⟩ => ⟨buf, csd, cap, fill⟩⟩

theorem goto_results {s : State} {p : Phase} (h : promises s) (hf : fillOk { s with phase := p }) :
    ResultsOk { s with phase := p } :=
  resultsOk_iff.2 ⟨h, hf⟩

/-- A buffer filled up to some byte is one of which nothing need be filled yet. -/
theorem filling_zero {s : State} {c : Cmd} {n : Nat} (h : filling s c n) : filling s c 0 := by
  cases c with
  | cmd17 => exact ⟨h.1, fun i hi => absurd hi (Nat.not_lt_zero i)⟩
  | cmd9 => exact ⟨h.1, h.2.1, fun i hi => absurd hi (Nat.not_lt_zero i)⟩
  | cmd0 | cmd8 | cmd55 | acmd41 | cmd24 | cmd58 => trivial

/-- INIT fills no buffer. -/
theorem filling_init {s : State} {c : Cmd} (n : Nat) (h : cmdOfInit c = true) : filling s c n := by
  cases c with
  | cmd0 | cmd8 | cmd55 | acmd41 | cmd58 | cmd24 => trivial
  | cmd17 | cmd9 => exact nomatch h

theorem withholds_of_filling {s : State} {c : Cmd} {n : Nat} (h : inTxn s c) (hf : filling s c n) : withholds s :=
  ⟨c, h, filling_zero hf⟩

/-- The buffer a failed request loses is one whose flag is 0 (R613). -/
theorem withholds_flags {s : State} (h : withholds s ∨ s.opLat = opInit) :
    (s.opLat = opReadBlock → s.bufValid = false) ∧
    (s.opLat = opReadCsd ∨ s.opLat = opGetCapacity → s.csdValid = false) := by
  rcases h with ⟨c, ⟨-, hop, -⟩, hf⟩ | hop
  · cases c with
    | cmd17 =>
      have hcsd : ¬ (s.opLat = opReadCsd ∨ s.opLat = opGetCapacity) := by
        rw [show s.opLat = opReadBlock from hop]; decide
      exact ⟨fun _ => hf.1, fun h => absurd h hcsd⟩
    | cmd9 =>
      have hbuf : s.opLat ≠ opReadBlock := by rcases hop with h | h <;> rw [h] <;> decide
      exact ⟨fun h => absurd h hbuf, fun _ => hf.1⟩
    | cmd0 | cmd8 | cmd55 | acmd41 | cmd24 | cmd58 =>
      simp only [cmdSentBy] at hop
      simp [hop, opInit, opReadBlock, opWriteBlock, opReadCsd, opGetCapacity]
  · simp [hop, opInit, opReadBlock, opReadCsd, opGetCapacity]

theorem stateCmd_cmdState (c : Cmd) : stateCmd (cmdState c) = c := by cases c <;> rfl

/-- STATE tells which command's transaction runs (R131). -/
theorem inTxn_unique {s : State} {c d : Cmd} (h : inTxn s c) (k : inTxn s d) : c = d :=
  calc
    c = stateCmd (cmdState c) := (stateCmd_cmdState c).symm
    _ = stateCmd (cmdState d) := by rw [← h.1, k.1]
    _ = d := stateCmd_cmdState d

/-! ### The ends of requests -/

/-- The error exit takes the values of a buffer whose flag is 0, and of no other (R613). -/
theorem leaveError_results {s : State} (h : promises s) (hw : withholds s ∨ s.opLat = opInit) :
    ResultsOk (leaveError s) := by
  obtain ⟨hbuf, hcsd, hcap⟩ := h
  obtain ⟨fbuf, fcsd⟩ := withholds_flags hw
  refine ⟨fun hv => ?_, fun hv => ?_, fun hv => ?_, trivial⟩
  · rw [leaveError_bufValid] at hv
    rw [leaveError_mem, forgetFilled_mem]
    split
    · next hop => exact absurd hv (by simp [fbuf hop])
    · split
      · exact memory_forget_holds (hbuf hv) (by decide)
      · exact hbuf hv
  · rw [leaveError_csdValid] at hv
    rw [leaveError_mem, forgetFilled_mem]
    split
    · exact memory_forget_holds (hcsd hv) (by decide)
    · split
      · next hop => exact absurd hv (by simp [fcsd hop])
      · exact hcsd hv
  · rw [leaveError_capValid] at hv
    rw [leaveError_capKib, leaveError_csize]
    exact hcap hv

theorem raise_results {e : Error} {s : State} (h : promises s) (hw : withholds s ∨ (s.csN = true ∧ s.opLat = opInit)) :
    ResultsOk (raise e s) := by
  cases hc : s.csN with
  | true =>
    rw [raise_deselected hc]
    exact leaveError_results (s := recordError e s) h (hw.imp_right And.right)
  | false =>
    rw [raise_selected hc]
    rcases hw with hw | ⟨hc', -⟩
    · exact goto_results (s := recordError e s) h hw
    · exact nomatch hc.symm.trans hc'

theorem complete_results {s : State} (h : promises s) : ResultsOk (complete s) := resultsOk_iff.2 ⟨h, trivial⟩

/-- `R1 <- Txn(...)` writes R1 alone (R471). -/
theorem storeR1_eq (r : Option Byte) (s : State) : ∃ v, storeR1 r s = { s with r1 := v } := by
  cases r with
  | some v => exact ⟨v, rfl⟩
  | none => exact ⟨s.r1, rfl⟩

/-- A transaction that has filled its buffer may set its flags; GET_CAPACITY computes the capacity it announces. -/
theorem endTxn_results {c : Cmd} {r : Option Byte} {s : State} (h : promises s) (hin : inTxn s c)
    (hf : filling s c (dataSize c)) : ResultsOk (endTxn c r s) := by
  obtain ⟨v, hv⟩ := storeR1_eq r s
  have fails (e : Error) (hc : filling s c 0) (w : Byte) : ResultsOk (raise e { s with r1 := w }) :=
    raise_results (s := { s with r1 := w }) h (.inl ⟨c, hin, hc⟩)
  cases c with
  | cmd0 =>
    simp only [endTxn, hv, afterReset]
    split
    · exact fails _ trivial v
    · exact resultsOk_iff.2 ⟨h, trivial⟩
  | cmd8 =>
    simp only [endTxn, afterVoltageCheck]
    split
    · exact fails _ trivial s.r1
    · exact resultsOk_iff.2 ⟨h, trivial⟩
  | cmd55 =>
    simp only [endTxn, hv, afterPrefix]
    exact resultsOk_iff.2 ⟨h, trivial⟩
  | acmd41 =>
    simp only [endTxn, hv, afterOpCond]
    split
    · split
      · exact fails _ trivial v
      · exact resultsOk_iff.2 ⟨h, trivial⟩
    · exact resultsOk_iff.2 ⟨h, trivial⟩
  | cmd58 =>
    simp only [endTxn, afterReadOcr]
    split
    · exact fails _ trivial s.r1
    · split <;> exact resultsOk_iff.2 ⟨h, trivial⟩
  | cmd24 => exact complete_results h
  | cmd17 =>
    obtain ⟨-, hcsd, hcap⟩ := h
    exact complete_results (s := { s with bufValid := true }) ⟨fun _ => hf.2, hcsd, hcap⟩
  | cmd9 =>
    obtain ⟨hbuf, -, hcap⟩ := h
    obtain ⟨-, -, hfull⟩ := hf
    unfold endTxn afterCsd
    dsimp only
    split
    · exact complete_results ⟨hbuf, fun _ => hfull, fun _ => rfl⟩
    · exact complete_results ⟨hbuf, fun _ => hfull, hcap⟩

/-! ### The lines between two bus events -/

theorem enterLoop_results {n : Nat} {first : Phase} {done : State → State} {s : State}
    (hf : ResultsOk { s with phase := first }) (hd : ResultsOk (done s)) : ResultsOk (enterLoop n first done s) := by
  rcases enterLoop_cases n first done s with ⟨-, e⟩ | ⟨-, e⟩ <;> rw [e]
  · exact hf
  · exact hd

theorem nextIteration_results {k n : Nat} {again : Nat → Phase} {done : State → State} {s : State}
    (ha : ResultsOk { s with phase := again (k + 1) }) (hd : ResultsOk (done s)) :
    ResultsOk (nextIteration k n again done s) := by
  rcases nextIteration_cases k n again done s with ⟨-, e⟩ | ⟨-, e⟩ <;> rw [e]
  · exact ha
  · exact hd

theorem startTail_results {c : Cmd} {s : State} (h : promises s) (hf : filling s c 0) :
    ResultsOk (startTail c s) := by
  cases c with
  | cmd17 | cmd9 => exact goto_results h hf
  | cmd0 | cmd8 | cmd55 | acmd41 | cmd58 | cmd24 => exact goto_results h trivial

theorem gotR1_results {c : Cmd} {v : Byte} {s : State} (h : promises s) (hf : filling s c (dataSize c)) :
    ResultsOk (gotR1 c v s) := by
  cases c with
  | cmd8 | cmd58 => exact resultsOk_iff.2 ⟨h, trivial⟩
  | cmd0 | cmd55 | acmd41 | cmd17 | cmd24 | cmd9 => exact goto_results h hf

theorem gotFour_results {c : Cmd} {v : Word} {s : State} (h : promises s) (hf : filling s c (dataSize c)) :
    ResultsOk (gotFour c v s) := by
  cases c with
  | cmd8 | cmd58 => exact resultsOk_iff.2 ⟨h, trivial⟩
  | cmd0 | cmd55 | acmd41 | cmd17 | cmd24 | cmd9 => exact goto_results h hf

theorem writeByte_promises {s : State} (a : Nat) (v : Byte) (h : promises s) : promises (s.writeByte a v) := by
  obtain ⟨hbuf, hcsd, hcap⟩ := h
  exact ⟨fun hv => memory_write_holds a v (hbuf hv), fun hv => memory_write_holds a v (hcsd hv), hcap⟩

/-- The byte of index `i` fills its buffer up to `i + 1` bytes (R447). -/
theorem writeByte_filling {s : State} {c : Cmd} {i : Nat} (v : Byte) (h : filling s c i) :
    filling (s.writeByte (dataBase c + i) v) c (i + 1) := by
  cases c with
  | cmd17 => exact ⟨h.1, memory_write_holds_succ v h.2⟩
  | cmd9 => exact ⟨h.1, h.2.1, memory_write_holds_succ v h.2.2⟩
  | cmd0 | cmd8 | cmd55 | acmd41 | cmd24 | cmd58 => trivial

theorem gotData_results {c : Cmd} {i : Nat} {v : Byte} {s : State} (h : promises s) (hf : filling s c i)
    (hi : i < dataSize c) : ResultsOk (gotData c i v s) := by
  have hp : promises (s.writeByte (dataBase c + i) v) := writeByte_promises _ v h
  have hn := writeByte_filling v hf
  unfold gotData
  split
  · exact goto_results hp hn
  · next hlast =>
    rw [show i + 1 = dataSize c by omega] at hn
    exact enterLoop_results (goto_results hp hn) (goto_results hp hn)

theorem gotDataResponse_results {d : Byte} {s : State} (h : promises s) (hin : inTxn s .cmd24) :
    ResultsOk (gotDataResponse d s) := by
  unfold gotDataResponse
  dsimp only
  split
  · split <;> exact resultsOk_iff.2 ⟨h, trivial⟩
  · exact raise_results (s := { s with dresp := d }) h (.inl ⟨.cmd24, hin, trivial⟩)

/-! ### The sequencer -/

section Exchanges

variable {s : State} (h : promises s) (hw : withholds s ∨ (s.csN = true ∧ s.opLat = opInit))

include h hw

theorem spiXfer_results {o : Byte} {use : Byte → State → State} (hu : ∀ v, ResultsOk (use v (exchange o s))) :
    ResultsOk (spiXfer o use s) := by
  rcases spiXfer_cases o use s with ⟨v, -, e⟩ | ⟨-, e⟩ <;> rw [e]
  · exact hu v
  · exact raise_results (s := exchange o s) h hw

theorem sendByte_results {o : Byte} {next : State → State} (hn : ResultsOk (next (exchange o s))) :
    ResultsOk (sendByte o next s) :=
  spiXfer_results h hw fun _ => hn

theorem poll_results {hit : Byte → Bool} {limit : Nat} {site : ErrSite} {k : Nat} {again : Nat → Phase}
    {found : Byte → State → State} (hf : ∀ v, ResultsOk (found v (exchange dummyByte s)))
    (ha : ResultsOk { exchange dummyByte s with phase := again (k + 1) }) :
    ResultsOk (poll hit limit site k again found s) := by
  rcases poll_cases hit limit site k again found s with
    ⟨v, -, -, e⟩ | ⟨v, -, -, -, e⟩ | ⟨v, -, -, -, e⟩ | ⟨-, e⟩ <;> rw [e]
  · exact hf v
  · exact ha
  · exact raise_results (s := exchange dummyByte s) h hw
  · exact raise_results (s := exchange dummyByte s) h hw

end Exchanges

theorem sendFrame_results {c : Cmd} {f : FrameWord} {s : State} (h : promises s) (hin : inTxn s c)
    (hf : filling s c 0) : ResultsOk (sendFrame c f s) :=
  sendByte_results h (.inl ⟨c, hin, hf⟩) (goto_results h hf)

/-- Every step of the sequencer keeps the results' promises, whatever the card answers. -/
theorem seqStep_results {s : State} (hi : Inv s) (h : ResultsOk s) (hissue : ∀ f, s.phase ≠ .issue f) :
    ResultsOk (seqStep s) := by
  obtain ⟨hp, fill⟩ := resultsOk_iff.1 h
  have pos := hi.position
  have level := hi.level
  unfold positionOk at pos
  unfold fillOk at fill
  unfold seqStep
  cases hph : s.phase with
  | idle => exact h
  | issue f => exact absurd hph (hissue f)
  | errorExit =>
    simp only [hph] at fill
    exact leaveError_results (s := csSet true s) hp (.inl fill)
  | clkSlow => exact goto_results (s := clkSet .slow s) hp trivial
  | preambleCs =>
    exact enterLoop_results (goto_results (s := csSet true s) hp trivial) (goto_results (s := csSet true s) hp trivial)
  | powerDummy k =>
    simp only [hph] at pos level
    obtain ⟨⟨-, hop, -⟩, -, -⟩ := pos
    exact sendByte_results hp (.inr ⟨level, hop⟩)
      (nextIteration_results (goto_results hp trivial) (goto_results hp trivial))
  | select c =>
    simp only [hph] at pos fill
    exact enterLoop_results (goto_results (s := csSet false s) hp fill)
      (goto_results (s := csSet false s) hp ⟨c, pos, fill⟩)
  | preDummy c k =>
    simp only [hph] at pos fill
    obtain ⟨hin, -, -⟩ := pos
    exact sendByte_results hp (.inl ⟨c, hin, fill⟩)
      (nextIteration_results (goto_results hp fill) (goto_results hp ⟨c, hin, fill⟩))
  | frame c f j =>
    simp only [hph] at pos fill
    obtain ⟨hin, -, -, -⟩ := pos
    refine sendByte_results hp (.inl ⟨c, hin, fill⟩) ?_
    split
    · exact goto_results hp fill
    · exact startTail_results hp fill
  | pollR1 c k =>
    simp only [hph] at pos
    obtain ⟨hin, hc, -, -⟩ := pos
    exact poll_results hp (.inl ⟨c, hin, filling_init 0 hc⟩) (fun v => gotR1_results hp (filling_init _ hc))
      (goto_results hp trivial)
  | readFour c j v =>
    simp only [hph] at pos
    obtain ⟨hin, hc, -, -⟩ := pos
    have hinit : cmdOfInit c = true := by rcases hc with rfl | rfl <;> rfl
    refine spiXfer_results hp (.inl ⟨c, hin, filling_init 0 hinit⟩) fun v => ?_
    split
    · exact goto_results hp trivial
    · exact gotFour_results hp (filling_init _ hinit)
  | pollToken c k =>
    simp only [hph] at pos fill
    obtain ⟨hin, -, -, -⟩ := pos
    exact poll_results hp (.inl ⟨c, hin, fill⟩) (fun _ => goto_results hp fill) (goto_results hp fill)
  | readData c i =>
    simp only [hph] at pos fill
    obtain ⟨hin, -, hlt⟩ := pos
    exact spiXfer_results hp (.inl (withholds_of_filling hin fill)) fun v => gotData_results hp fill hlt
  | trailer c j =>
    simp only [hph] at pos fill
    obtain ⟨hin, -, -, -⟩ := pos
    exact sendByte_results hp (.inl (withholds_of_filling hin fill))
      (nextIteration_results (goto_results hp fill) (goto_results hp fill))
  | sendToken =>
    simp only [hph] at pos
    exact sendByte_results hp (.inl ⟨.cmd24, pos, trivial⟩) (goto_results hp trivial)
  | sendData i =>
    simp only [hph] at pos
    obtain ⟨hin, -⟩ := pos
    refine sendByte_results hp (.inl ⟨.cmd24, hin, trivial⟩) ?_
    split <;> exact goto_results hp trivial
  | sendCrc0 =>
    simp only [hph] at pos
    exact sendByte_results hp (.inl ⟨.cmd24, pos, trivial⟩) (goto_results hp trivial)
  | sendCrc1 =>
    simp only [hph] at pos
    exact sendByte_results hp (.inl ⟨.cmd24, pos, trivial⟩) (goto_results hp trivial)
  | pollDresp k =>
    simp only [hph] at pos
    obtain ⟨hin, -, -⟩ := pos
    exact poll_results hp (.inl ⟨.cmd24, hin, trivial⟩) (fun d => gotDataResponse_results hp hin)
      (goto_results hp trivial)
  | pollBusy k =>
    simp only [hph] at pos
    obtain ⟨hin, -, -, -⟩ := pos
    exact poll_results hp (.inl ⟨.cmd24, hin, trivial⟩) (fun _ => goto_results hp trivial) (goto_results hp trivial)
  | deselect c r =>
    simp only [hph] at pos fill
    exact enterLoop_results (goto_results (s := csSet true s) hp fill) (endTxn_results (s := csSet true s) hp pos fill)
  | postDummy c r k =>
    simp only [hph] at pos fill
    obtain ⟨hin, -, -⟩ := pos
    exact sendByte_results hp (.inl (withholds_of_filling hin fill))
      (nextIteration_results (goto_results hp fill) (endTxn_results hp hin fill))
  | clkFast => exact resultsOk_iff.2 ⟨hp, trivial⟩

/-! ### The host and the platform -/

/-- An acceptance clears the flags that its request will set (R115 to R117). -/
theorem requestStart_results {i : Instr} {op : Byte} {s : State} (h : promises s) (ho : i.opcode = some op) :
    ResultsOk (requestStart i (accept op s)) := by
  obtain ⟨hbuf, hcsd, hcap⟩ := h
  have empty (base : Nat) : s.mem.holds base 0 := fun i hi => absurd hi (Nat.not_lt_zero i)
  rcases request_cases ho with ⟨rfl, rfl⟩ | ⟨rfl, rfl⟩ | ⟨rfl, rfl⟩ | ⟨rfl, rfl⟩ | ⟨rfl, rfl⟩
  · exact ⟨hbuf, hcsd, hcap, trivial⟩
  · exact ⟨nofun, hcsd, hcap, rfl, empty _⟩
  · exact ⟨hbuf, hcsd, hcap, trivial⟩
  · exact ⟨hbuf, nofun, hcap, rfl, fun hop => absurd (show opReadCsd = opGetCapacity from hop) (by decide), empty _⟩
  · exact ⟨hbuf, nofun, nofun, rfl, fun _ => rfl, empty _⟩

theorem presented_results {v : Word} {s t : State} (h : ResultsOk s) (hp : Presented v s t) : ResultsOk t := by
  cases hp with
  | violates => exact ⟨h.buf, h.csd, h.cap, h.fill⟩
  | refused => exact ⟨h.buf, h.csd, h.cap, h.fill⟩
  | accepted i op _ ho _ _ => exact requestStart_results (resultsOk_iff.1 h).1 ho

theorem hostDone_results {s t : State} (hi : Inv s) (h : ResultsOk s) (hd : HostDone s t) : ResultsOk t := by
  cases hd with
  | own => exact ⟨h.buf, h.csd, h.cap, h.fill⟩
  | marked => exact ⟨h.buf, h.csd, h.cap, h.fill⟩
  | wroteAddr => exact ⟨h.buf, h.csd, h.cap, h.fill⟩
  | wroteBuf off v _ hb _ =>
    refine ⟨nofun, fun hv => memory_write_holds _ _ (h.csd hv), h.cap, ?_⟩
    simp [fillOk, idle_phase hi hb]

theorem platformReset_results (s : State) : ResultsOk (platformReset s) := ⟨nofun, nofun, nofun, trivial⟩

/-- Every move of every agent keeps the results' promises. -/
theorem advance_results {s t : State} (hi : Inv s) (h : ResultsOk s) (ha : advance s = .next t) : ResultsOk t := by
  have hti : Inv (takeTurn s) := takeTurn_inv hi
  have hts : ResultsOk (takeTurn s) := ⟨h.buf, h.csd, h.cap, h.fill⟩
  cases hw : whoMoves s with
  | host =>
    rcases advance_host ha hw with hd | ⟨v, -, hp⟩
    · exact hostDone_results hti hts hd
    · have hu : ResultsOk { takeTurn s with hpc := s.hpc + 1 } := ⟨h.buf, h.csd, h.cap, h.fill⟩
      exact presented_results hu hp
  | controller =>
    rcases advance_cases ha with ⟨hw', -⟩ | ⟨hw', -⟩ | ⟨-, ⟨f, c, a, hp, hd, rfl⟩ | ⟨hn, rfl⟩⟩
    · exact nomatch hw.symm.trans hw'
    · exact nomatch hw.symm.trans hw'
    · obtain ⟨hin, -⟩ := issue_owner hti.position hp hd
      have hf : fillOk s := h.fill
      simp only [fillOk, hp] at hf
      obtain ⟨d, hin', hf⟩ := hf
      obtain rfl : c = d := inTxn_unique hin hin'
      exact sendFrame_results (resultsOk_iff.1 hts).1 hin hf
    · exact seqStep_results hti hts hn
  | platformReset =>
    rcases advance_cases ha with ⟨-, rfl⟩ | ⟨hw', -⟩ | ⟨hw', -⟩
    · exact platformReset_results _
    · exact nomatch hw.symm.trans hw'
    · exact nomatch hw.symm.trans hw'

end Sys2Proof.Machine
end

section
/-! SUPPORT. What a step of the running controller comes to, said once: one bus event, and then what the lines up to the
next one do with the state (spec/00_scope.md R9). Which registers a step may write is read off it. -/

namespace Sys2Proof.Machine

/-- The bus event of a step (R12). -/
inductive BusStep (s : State) : State → Prop
  /-- Begin's `CsSet(0)` (R433) -/
  | selected (c : Cmd) (at_ : s.phase = .select c) : BusStep s (csSet false s)
  | deselected : BusStep s (csSet true s)
  | clocked (r : ClockRate) : BusStep s (clkSet r s)
  | exchanged (o : Byte) : BusStep s (exchange o s)

/-- The commands whose transaction returns the byte that R1 takes (R471). -/
def returnsR1 (c : Cmd) : Prop := c = .cmd0 ∨ c = .cmd55 ∨ c = .acmd41

/-- What the end of the transaction of `c` makes of the state. -/
inductive TxnEnd (c : Cmd) (s : State) : State → Prop
  /-- the next transaction of INIT -/
  | goesOn (d : Cmd) (q : SeqState) (v : Byte) (r1 : v = s.r1 ∨ returnsR1 c) :
      TxnEnd c s (startTxn d { s with r1 := v, seqState := q })
  /-- the attempt is counted and its transaction starts (R475) -/
  | counts (v : Byte) (cmd : c = .cmd55) :
      TxnEnd c s (startTxn .acmd41 (countAttempt { s with r1 := v, seqState := .operatingConditionPoll }))
  /-- the response is judged to have failed (R477, R480) -/
  | fails (e : Error) (v : Byte) (r1 : v = s.r1 ∨ returnsR1 c) : TxnEnd c s (raise e { s with r1 := v })
  /-- `ClkSet(FAST)` is next (R479) -/
  | raisesClock (cmd : c = .cmd58) : TxnEnd c s { s with phase := .clkFast }
  | initialized (cmd : c = .cmd58) : TxnEnd c s (completeInit s)
  | blockWritten (cmd : c = .cmd24) : TxnEnd c s (complete s)
  | blockRead (cmd : c = .cmd17) : TxnEnd c s (complete { s with bufValid := true })
  | csdRead (cmd : c = .cmd9) : TxnEnd c s (complete { s with csdValid := true })
  | capacityRead (n : BitVec 22) (k : Word) (cmd : c = .cmd9) (op : s.opLat = opGetCapacity) :
      TxnEnd c s (complete { s with csdValid := true, csize := n, capKib := k, capValid := true })

/-- What the lines after a bus event make of the state right after it, whose phase is still the step's own. -/
inductive Follows (s : State) : State → Prop
  | goesTo (p : Phase) : Follows s { s with phase := p }
  | raises (e : Error) (at_ : s.phase ≠ .errorExit) : Follows s (raise e s)
  /-- a five-byte response's first byte (R442, R471) -/
  | tookR1 (c : Cmd) (k : Nat) (v : Byte) (p : Phase) (at_ : s.phase = .pollR1 c k) (cmd : c = .cmd8 ∨ c = .cmd58) :
      Follows s { s with r1 := v, phase := p }
  | tookR7 (j : Nat) (u v : Word) (p : Phase) (at_ : s.phase = .readFour .cmd8 j u) :
      Follows s { s with r7 := v, phase := p }
  | tookOcr (j : Nat) (u v : Word) (p : Phase) (at_ : s.phase = .readFour .cmd58 j u) :
      Follows s { s with ocr := v, phase := p }
  | tookResponse (k : Nat) (d : Byte) (p : Phase) (at_ : s.phase = .pollDresp k) :
      Follows s { s with dresp := d, phase := p }
  | rejected (k : Nat) (d : Byte) (at_ : s.phase = .pollDresp k) :
      Follows s (raise (.writeRejected d) { s with dresp := d })
  | stored (c : Cmd) (i : Nat) (v : Byte) (p : Phase) (at_ : s.phase = .readData c i) :
      Follows s { s.writeByte (dataBase c + i) v with phase := p }
  | ended (c : Cmd) (r : Option Byte) (t : State)
      (at_ : s.phase = .deselect c r ∨ ∃ k, s.phase = .postDummy c r k) (ends : TxnEnd c s t) : Follows s t
  | clockRaised (at_ : s.phase = .clkFast) : Follows s (completeInit s)
  | leaves (at_ : s.phase = .errorExit) : Follows s (leaveError s)

/-- A bus event and the lines after it. -/
def Moves (s t : State) : Prop := ∃ u, BusStep s u ∧ Follows u t

/-! ### The lines after the bus event -/

theorem enterLoop_follows {n : Nat} {first : Phase} {done : State → State} {s : State} (hd : Follows s (done s)) :
    Follows s (enterLoop n first done s) := by
  rcases enterLoop_cases n first done s with ⟨-, e⟩ | ⟨-, e⟩ <;> rw [e]
  · exact .goesTo first
  · exact hd

theorem nextIteration_follows {k n : Nat} {again : Nat → Phase} {done : State → State} {s : State}
    (hd : Follows s (done s)) : Follows s (nextIteration k n again done s) := by
  rcases nextIteration_cases k n again done s with ⟨-, e⟩ | ⟨-, e⟩ <;> rw [e]
  · exact .goesTo _
  · exact hd

theorem startTail_follows (c : Cmd) (s : State) : Follows s (startTail c s) := by
  cases c <;> exact .goesTo _

theorem gotR1_follows {c : Cmd} {k : Nat} {s : State} (v : Byte) (h : s.phase = .pollR1 c k) :
    Follows s (gotR1 c v s) := by
  cases c with
  | cmd8 => exact .tookR1 .cmd8 k v _ h (.inl rfl)
  | cmd58 => exact .tookR1 .cmd58 k v _ h (.inr rfl)
  | cmd0 | cmd55 | acmd41 | cmd17 | cmd24 | cmd9 => exact .goesTo _

theorem gotFour_follows {c : Cmd} {j : Nat} {u : Word} {s : State} (v : Word) (h : s.phase = .readFour c j u) :
    Follows s (gotFour c v s) := by
  cases c with
  | cmd8 => exact .tookR7 j u v _ h
  | cmd58 => exact .tookOcr j u v _ h
  | cmd0 | cmd55 | acmd41 | cmd17 | cmd24 | cmd9 => exact .goesTo _

theorem gotData_follows {c : Cmd} {i : Nat} {s : State} (v : Byte) (h : s.phase = .readData c i) :
    Follows s (gotData c i v s) := by
  unfold gotData
  split
  · exact .stored c i v _ h
  · rcases enterLoop_cases (s.writeByte (dataBase c + i) v).cfg.nReadTrailer (.trailer c 1) (startEnd c none)
      (s.writeByte (dataBase c + i) v) with ⟨-, e⟩ | ⟨-, e⟩
    · exact e ▸ .stored c i v _ h
    · exact e ▸ .stored c i v _ h

theorem gotDataResponse_follows {k : Nat} {s : State} (d : Byte) (h : s.phase = .pollDresp k) :
    Follows s (gotDataResponse d s) := by
  unfold gotDataResponse
  dsimp only
  split
  · split <;> exact .tookResponse k d _ h
  · exact .rejected k d h

/-- The lines after a transaction (R471, R501, R511, R531, R541). -/
theorem endTxn_ends (c : Cmd) (r : Option Byte) (s : State) : TxnEnd c s (endTxn c r s) := by
  obtain ⟨v, hv⟩ := storeR1_eq r s
  cases c with
  | cmd0 =>
    simp only [endTxn, hv, afterReset]
    split
    · exact .fails _ v (.inr (.inl rfl))
    · exact .goesOn .cmd8 _ v (.inr (.inl rfl))
  | cmd8 =>
    simp only [endTxn, afterVoltageCheck]
    split
    · exact .fails _ s.r1 (.inl rfl)
    · exact .goesOn .cmd55 _ s.r1 (.inl rfl)
  | cmd55 =>
    simp only [endTxn, hv, afterPrefix]
    exact .counts v rfl
  | acmd41 =>
    simp only [endTxn, hv, afterOpCond]
    split
    · split
      · exact .fails _ v (.inr (.inr (.inr rfl)))
      · exact .goesOn .cmd55 _ v (.inr (.inr (.inr rfl)))
    · exact .goesOn .cmd58 _ v (.inr (.inr (.inr rfl)))
  | cmd58 =>
    simp only [endTxn, afterReadOcr]
    split
    · exact .fails _ s.r1 (.inl rfl)
    · split
      · exact .raisesClock rfl
      · exact .initialized rfl
  | cmd17 => exact .blockRead rfl
  | cmd24 => exact .blockWritten rfl
  | cmd9 =>
    unfold endTxn afterCsd
    dsimp only
    split
    · next hop => exact .capacityRead _ _ rfl hop
    · exact .csdRead rfl

/-! ### The step -/

theorem spiXfer_moves {o : Byte} {use : Byte → State → State} {s : State} (hp : s.phase ≠ .errorExit)
    (hu : ∀ v, Follows (exchange o s) (use v (exchange o s))) : Moves s (spiXfer o use s) := by
  refine ⟨exchange o s, .exchanged o, ?_⟩
  rcases spiXfer_cases o use s with ⟨v, -, e⟩ | ⟨-, e⟩ <;> rw [e]
  · exact hu v
  · exact .raises _ hp

theorem sendByte_moves {o : Byte} {next : State → State} {s : State} (hp : s.phase ≠ .errorExit)
    (hn : Follows (exchange o s) (next (exchange o s))) : Moves s (sendByte o next s) :=
  spiXfer_moves hp fun _ => hn

theorem poll_moves {hit : Byte → Bool} {limit : Nat} {site : ErrSite} {k : Nat} {again : Nat → Phase}
    {found : Byte → State → State} {s : State} (hp : s.phase ≠ .errorExit)
    (hf : ∀ v, Follows (exchange dummyByte s) (found v (exchange dummyByte s))) :
    Moves s (poll hit limit site k again found s) := by
  refine ⟨exchange dummyByte s, .exchanged dummyByte, ?_⟩
  rcases poll_cases hit limit site k again found s with
    ⟨v, -, -, e⟩ | ⟨v, -, -, -, e⟩ | ⟨v, -, -, -, e⟩ | ⟨-, e⟩ <;> rw [e]
  · exact hf v
  · exact .goesTo _
  · exact .raises _ hp
  · exact .raises _ hp

theorem seqStep_moves {s : State} (hidle : s.phase ≠ .idle) (hissue : ∀ f, s.phase ≠ .issue f) :
    Moves s (seqStep s) := by
  unfold seqStep
  cases hp : s.phase with
  | idle => exact absurd hp hidle
  | issue f => exact absurd hp (hissue f)
  | clkSlow => exact ⟨_, .clocked .slow, .goesTo _⟩
  | preambleCs => exact ⟨_, .deselected, enterLoop_follows (.goesTo _)⟩
  | powerDummy k => exact sendByte_moves (by simp [hp]) (nextIteration_follows (.goesTo _))
  | select c => exact ⟨_, .selected c hp, enterLoop_follows (.goesTo _)⟩
  | preDummy c k => exact sendByte_moves (by simp [hp]) (nextIteration_follows (.goesTo _))
  | frame c f j =>
    refine sendByte_moves (by simp [hp]) ?_
    split
    · exact .goesTo _
    · exact startTail_follows c _
  | pollR1 c k => exact poll_moves (by simp [hp]) fun v => gotR1_follows v hp
  | readFour c j u =>
    refine spiXfer_moves (by simp [hp]) fun v => ?_
    split
    · exact .goesTo _
    · exact gotFour_follows _ hp
  | pollToken c k => exact poll_moves (by simp [hp]) fun _ => .goesTo _
  | readData c i => exact spiXfer_moves (by simp [hp]) fun v => gotData_follows v hp
  | trailer c j => exact sendByte_moves (by simp [hp]) (nextIteration_follows (.goesTo _))
  | sendToken => exact sendByte_moves (by simp [hp]) (.goesTo _)
  | sendData i =>
    refine sendByte_moves (by simp [hp]) ?_
    split <;> exact .goesTo _
  | sendCrc0 => exact sendByte_moves (by simp [hp]) (.goesTo _)
  | sendCrc1 => exact sendByte_moves (by simp [hp]) (.goesTo _)
  | pollDresp k => exact poll_moves (by simp [hp]) fun d => gotDataResponse_follows d hp
  | pollBusy k => exact poll_moves (by simp [hp]) fun _ => .goesTo _
  | deselect c r => exact ⟨_, .deselected, enterLoop_follows (.ended c r _ (.inl hp) (endTxn_ends c r _))⟩
  | postDummy c r k =>
    exact sendByte_moves (by simp [hp]) (nextIteration_follows (.ended c r _ (.inr ⟨k, hp⟩) (endTxn_ends c r _)))
  | clkFast => exact ⟨_, .clocked .fast, .clockRaised hp⟩
  | errorExit => exact ⟨_, .deselected, .leaves hp⟩

/-- What a move of the running controller comes to, whatever the run has done before. -/
theorem advance_controller {s t : State} (h : advance s = .next t) (hw : whoMoves s = .controller)
    (hidle : s.phase ≠ .idle) : Moves (takeTurn s) t := by
  rcases advance_cases h with ⟨hw', -⟩ | ⟨hw', -⟩ | ⟨-, ⟨f, c, a, hp, -, rfl⟩ | ⟨hissue, rfl⟩⟩
  · exact nomatch hw.symm.trans hw'
  · exact nomatch hw.symm.trans hw'
  · exact sendByte_moves (by simp [hp]) (.goesTo _)
  · exact seqStep_moves hidle hissue

/-! ### What no line after a bus event changes -/

/-- The fields that no line between two bus events changes: the outputs, the latches, ADDR, the violation marks, the
trace and the host's fields. -/
structure SameOutside (s t : State) : Prop where
  csN : t.csN = s.csN
  clkSel : t.clkSel = s.clkSel
  addr : t.addr = s.addr
  opLat : t.opLat = s.opLat
  hostViolation : t.hostViolation = s.hostViolation
  trace : t.trace = s.trace

theorem raise_sameOutside (e : Error) (s : State) : SameOutside s (raise e s) := by
  constructor <;> simp [raise_frame]

theorem txnEnd_sameOutside {c : Cmd} {s t : State} (h : TxnEnd c s t) : SameOutside s t := by
  cases h with
  | fails e v _ =>
    obtain ⟨h1, h2, h3, h4, h5, h6⟩ := raise_sameOutside e { s with r1 := v }
    exact ⟨h1, h2, h3, h4, h5, h6⟩
  | _ => exact ⟨rfl, rfl, rfl, rfl, rfl, rfl⟩

theorem follows_sameOutside {s t : State} (h : Follows s t) : SameOutside s t := by
  cases h with
  | raises e _ => exact raise_sameOutside e s
  | rejected k d _ =>
    obtain ⟨h1, h2, h3, h4, h5, h6⟩ := raise_sameOutside (.writeRejected d) { s with dresp := d }
    exact ⟨h1, h2, h3, h4, h5, h6⟩
  | ended c r t _ ends => exact txnEnd_sameOutside ends
  | leaves => constructor <;> simp
  | _ => exact ⟨rfl, rfl, rfl, rfl, rfl, rfl⟩

end Sys2Proof.Machine
end

section
/-! SUPPORT. The outputs against the trace (spec/10_state.md R102, R103, spec/42_bus_transactions.md R436): what one
more event does to the levels the trace tells, and that every move keeps them. -/

namespace Sys2Proof.Machine

/-! ### One more event -/

/-- The chip-select level after one event (R102, R701). -/
def levelStep (l : Bool) : BusEvent → Bool
  | .cs b => b
  | .rst => true
  | .clk _ => l
  | .xfer _ _ => l

theorem levelAfter_eq (tr : List BusEvent) : levelAfter tr = tr.foldl levelStep true := by
  unfold levelAfter
  congr 1

theorem levelAfter_append (tr : List BusEvent) (e : BusEvent) :
    levelAfter (tr ++ [e]) = levelStep (levelAfter tr) e := by
  simp [levelAfter_eq]

/-- The clock rate after one event (R103, R701). -/
theorem rateAfter_append (tr : List BusEvent) (e : BusEvent) :
    rateAfter (tr ++ [e]) =
      match e with
      | .cs _ | .xfer _ _ => rateAfter tr
      | .rst => .slow
      | .clk q => q := by
  unfold rateAfter
  rw [List.foldl_append]
  cases e <;> rfl

/-- The rest of a trace is judged from the level that its beginning leaves (R436). -/
theorem selectsAlternate_append (l : Bool) (tr rest : List BusEvent) :
    selectsAlternate l (tr ++ rest) = (selectsAlternate l tr && selectsAlternate (tr.foldl levelStep l) rest) := by
  induction tr generalizing l with
  | nil => rfl
  | cons e tr ih => cases e <;> simp [selectsAlternate, levelStep, ih, Bool.and_assoc]

theorem selectsAlternate_append_one (tr : List BusEvent) (e : BusEvent) :
    selectsAlternate true (tr ++ [e]) = (selectsAlternate true tr && selectsAlternate (levelAfter tr) [e]) := by
  rw [selectsAlternate_append, levelAfter_eq]

/-! ### The bus primitives -/

theorem traceOk_congr {s t : State} (h : TraceOk s) (h1 : t.csN = s.csN) (h2 : t.clkSel = s.clkSel)
    (h3 : t.trace = s.trace) : TraceOk t :=
  ⟨by rw [h1, h3, h.level], by rw [h2, h3, h.rate], by rw [h3, h.alternate]⟩

/-- `CsSet(0)` only with the card deselected (R436). -/
theorem csSet_traceOk {l : Bool} {s : State} (h : TraceOk s) (hl : l = true ∨ s.csN = true) : TraceOk (csSet l s) where
  level := by simp [levelAfter_append, levelStep]
  rate := by simp [rateAfter_append, h.rate]
  alternate := by
    rw [csSet_trace, selectsAlternate_append_one, h.alternate, ← h.level]
    rcases hl with rfl | hc
    · simp [selectsAlternate]
    · simp [selectsAlternate, hc]

theorem clkSet_traceOk {r : ClockRate} {s : State} (h : TraceOk s) : TraceOk (clkSet r s) where
  level := by simp [levelAfter_append, levelStep, h.level]
  rate := by simp [rateAfter_append]
  alternate := by simp [selectsAlternate_append_one, selectsAlternate, h.alternate]

theorem exchange_traceOk {o : Byte} {s : State} (h : TraceOk s) : TraceOk (exchange o s) where
  level := by simp [levelAfter_append, levelStep, h.level]
  rate := by simp [rateAfter_append, h.rate]
  alternate := by simp [selectsAlternate_append_one, selectsAlternate, h.alternate]

theorem platformReset_traceOk {s : State} (h : TraceOk s) : TraceOk (platformReset s) where
  level := (levelAfter_append s.trace .rst).symm
  rate := (rateAfter_append s.trace .rst).symm
  alternate := by
    show selectsAlternate true (s.trace ++ [.rst]) = true
    simp [selectsAlternate_append_one, selectsAlternate, h.alternate]

/-! ### The moves -/

/-- Begin's `CsSet(0)` is met with the card deselected (R436). -/
theorem busStep_traceOk {s u : State} (hi : Inv s) (h : TraceOk s) (b : BusStep s u) : TraceOk u := by
  cases b with
  | selected c hp => exact csSet_traceOk h (.inr (by rw [hi.level, hp]; rfl))
  | deselected => exact csSet_traceOk h (.inl rfl)
  | clocked r => exact clkSet_traceOk h
  | exchanged o => exact exchange_traceOk h

theorem hostDone_traceOk {s t : State} (h : TraceOk s) (hd : HostDone s t) : TraceOk t := by
  cases hd <;> exact traceOk_congr h rfl rfl rfl

theorem requestStart_traceOk {i : Instr} {op : Byte} {s : State} (h : TraceOk s) :
    TraceOk (requestStart i (accept op s)) := by
  cases i <;> exact traceOk_congr h rfl rfl rfl

theorem presented_traceOk {v : Word} {s t : State} (h : TraceOk s) (hp : Presented v s t) : TraceOk t := by
  cases hp with
  | violates => exact traceOk_congr h rfl rfl rfl
  | refused => exact traceOk_congr h rfl rfl rfl
  | accepted i op => exact requestStart_traceOk h

/-- Every move of every agent keeps the outputs as the trace says. -/
theorem advance_traceOk {s t : State} (hi : Inv s) (h : TraceOk s) (ha : advance s = .next t) : TraceOk t := by
  have hs : TraceOk (takeTurn s) := traceOk_congr h rfl rfl rfl
  cases hw : whoMoves s with
  | host =>
    rcases advance_host ha hw with hd | ⟨v, -, hp⟩
    · exact hostDone_traceOk hs hd
    · have hu : TraceOk { takeTurn s with hpc := s.hpc + 1 } := traceOk_congr h rfl rfl rfl
      exact presented_traceOk hu hp
  | controller =>
    by_cases hidle : s.phase = .idle
    · exact advance_controller_idle ha hw hidle ▸ hs
    · obtain ⟨u, hb, hf⟩ := advance_controller ha hw hidle
      obtain ⟨h1, h2, -, -, -, h3⟩ := follows_sameOutside hf
      exact traceOk_congr (busStep_traceOk (takeTurn_inv hi) hs hb) h1 h2 h3
  | platformReset =>
    rcases advance_cases ha with ⟨-, rfl⟩ | ⟨hw', -⟩ | ⟨hw', -⟩
    · exact platformReset_traceOk hs
    · exact nomatch hw.symm.trans hw'
    · exact nomatch hw.symm.trans hw'

end Sys2Proof.Machine
end

section
/-! SUPPORT. Which operations write which register: acceptances, host accesses and the controller's lines, one lemma a
register or flag (spec/10_state.md R104 to R121). -/

namespace Sys2Proof.Machine

/-! ### Requests -/

/-- The lines of a request before its first bus event write STATE, the phase, the flags the request will set and INIT's
count, and nothing else. -/
theorem requestStart_eq (i : Instr) (s : State) :
    requestStart i s = { s with
      attempts := (requestStart i s).attempts, bufValid := (requestStart i s).bufValid,
      csdValid := (requestStart i s).csdValid, capValid := (requestStart i s).capValid,
      seqState := (requestStart i s).seqState, phase := (requestStart i s).phase } := by
  cases i <;> rfl

@[simp] theorem requestStart_busy (i : Instr) (s : State) : (requestStart i s).busy = s.busy := by
  rw [requestStart_eq]

/-- INIT's acceptance is the one that writes the attempt count (R108). -/
theorem requestStart_attempts {i : Instr} (h : i ≠ .init) (s : State) :
    (requestStart i s).attempts = s.attempts := by
  cases i with
  | init => exact absurd rfl h
  | _ => rfl

/-- READ_BLOCK's acceptance is the one that clears BUF_VALID (R115). -/
theorem requestStart_bufValid {i : Instr} (h : i ≠ .readBlock) (s : State) :
    (requestStart i s).bufValid = s.bufValid := by
  cases i with
  | readBlock => exact absurd rfl h
  | _ => rfl

/-- READ_CSD's and GET_CAPACITY's acceptances are those that clear CSD_VALID (R116). -/
theorem requestStart_csdValid {i : Instr} (h : i ≠ .readCsd) (h' : i ≠ .getCapacity) (s : State) :
    (requestStart i s).csdValid = s.csdValid := by
  cases i with
  | readCsd => exact absurd rfl h
  | getCapacity => exact absurd rfl h'
  | _ => rfl

/-- GET_CAPACITY's acceptance is the one that clears CAP_VALID (R117). -/
theorem requestStart_capValid {i : Instr} (h : i ≠ .getCapacity) (s : State) :
    (requestStart i s).capValid = s.capValid := by
  cases i with
  | getCapacity => exact absurd rfl h
  | _ => rfl

/-! ### Errors -/

/-- What the step that raises an error leaves in the ERR fields, and that the exit is under way or complete (R612). -/
theorem raise_writes (e : Error) (s : State) :
    (raise e s).err ≠ .none ∧ (raise e s).errState = s.seqState ∧
    ((raise e s).phase = .errorExit ∨ (raise e s).busy = false) := by
  have herr : (recordError e s).err ≠ .none := recordError_err_ne_none e s
  cases h : s.csN with
  | true => simpa [raise_deselected h] using herr
  | false => simpa [raise_selected h] using herr

/-! ### The controller's lines -/

/-- A bus event changes the outputs, the card side and the model's records, and nothing else. -/
theorem busStep_eq {s u : State} (h : BusStep s u) :
    u = { s with csN := u.csN, clkSel := u.clkSel, trace := u.trace, card := u.card, draws := u.draws } := by
  cases h <;> rfl

/-- The step is the last of a transaction of `c` (R434). -/
def endsTxn (s : State) (c : Cmd) : Prop := ∃ r, s.phase = .deselect c r ∨ ∃ k, s.phase = .postDummy c r k

/-- The result registers, READY and the three valid flags (R104 to R108, R113, R115 to R117). -/
structure Results where
  r1 : Byte
  r7 : Word
  ocr : Word
  dresp : Byte
  csize : BitVec 22
  capKib : Word
  attempts : Nat
  ready : Bool
  bufValid : Bool
  csdValid : Bool
  capValid : Bool

def State.results (s : State) : Results where
  r1 := s.r1
  r7 := s.r7
  ocr := s.ocr
  dresp := s.dresp
  csize := s.csize
  capKib := s.capKib
  attempts := s.attempts
  ready := s.ready
  bufValid := s.bufValid
  csdValid := s.csdValid
  capValid := s.capValid

/-- Which results a step from the phase of `s` to `t` writes; `t` is named where the writing step ends its request. -/
inductive Writes (s t : State) : Results → Prop
  | nothing : Writes s t s.results
  /-- the poll of a five-byte response (R104; log 13) -/
  | polledR1 (c : Cmd) (k : Nat) (v : Byte) (at_ : s.phase = .pollR1 c k) (cmd : c = .cmd8 ∨ c = .cmd58) :
      Writes s t { s.results with r1 := v }
  /-- the end of a transaction that returns a byte (R104; log 13) -/
  | returnedR1 (c : Cmd) (v : Byte) (cmd : returnsR1 c) (ends : endsTxn s c) : Writes s t { s.results with r1 := v }
  | readR7 (j : Nat) (u v : Word) (at_ : s.phase = .readFour .cmd8 j u) : Writes s t { s.results with r7 := v }
  | readOcr (j : Nat) (u v : Word) (at_ : s.phase = .readFour .cmd58 j u) : Writes s t { s.results with ocr := v }
  | polledDresp (k : Nat) (d : Byte) (at_ : s.phase = .pollDresp k) : Writes s t { s.results with dresp := d }
  /-- the last step of an APP_CMD_PREFIX transaction (R108, R475; log 12) -/
  | counted (v : Byte) (ends : endsTxn s .cmd55) :
      Writes s t { s.results with r1 := v, attempts := s.attempts + 1 }
  | initialized (at_ : s.phase = .clkFast ∨ endsTxn s .cmd58) (idle : t.busy = false ∧ t.phase = .idle)
      (state : t.seqState = .ready) (err : t.err = s.err) :
      Writes s t { s.results with ready := true }
  | blockRead (ends : endsTxn s .cmd17) (idle : t.busy = false) (err : t.err = s.err) :
      Writes s t { s.results with bufValid := true }
  | csdRead (ends : endsTxn s .cmd9) (idle : t.busy = false) (err : t.err = s.err) :
      Writes s t { s.results with csdValid := true }
  | capacityRead (n : BitVec 22) (k : Word) (ends : endsTxn s .cmd9) (op : s.opLat = opGetCapacity)
      (idle : t.busy = false) (err : t.err = s.err) :
      Writes s t { s.results with csdValid := true, csize := n, capKib := k, capValid := true }

theorem raise_sameResults (e : Error) (s : State) : (raise e s).results = s.results := by
  simp only [State.results, raise_frame]

theorem leaveError_sameResults (s : State) : (leaveError s).results = s.results := by
  simp only [State.results, leaveError_r1, leaveError_r7, leaveError_ocr, leaveError_dresp, leaveError_csize,
    leaveError_capKib, leaveError_attempts, leaveError_ready, leaveError_bufValid, leaveError_csdValid,
    leaveError_capValid]

/-- R1's value at the end of a transaction is the returned byte, or the one it had. -/
theorem returnedR1_writes {c : Cmd} {s t : State} {v : Byte} (hr : v = s.r1 ∨ returnsR1 c) (he : endsTxn s c) :
    Writes s t { s.results with r1 := v } := by
  rcases hr with rfl | hc
  · exact .nothing
  · exact .returnedR1 c v hc he

theorem txnEnd_writes {c : Cmd} {s t : State} (h : TxnEnd c s t) (he : endsTxn s c) : Writes s t t.results := by
  cases h with
  | goesOn d q v hr => exact returnedR1_writes hr he
  | counts v hc => exact .counted v (hc ▸ he)
  | fails e v hr =>
    rw [raise_sameResults]
    exact returnedR1_writes hr he
  | raisesClock => exact .nothing
  | initialized hc => exact .initialized (.inr (hc ▸ he)) ⟨rfl, rfl⟩ rfl rfl
  | blockWritten => exact .nothing
  | blockRead hc => exact .blockRead (hc ▸ he) rfl rfl
  | csdRead hc => exact .csdRead (hc ▸ he) rfl rfl
  | capacityRead n k hc hop => exact .capacityRead n k (hc ▸ he) hop rfl rfl

/-- Which results the lines after a bus event write. -/
theorem follows_writes {s t : State} (h : Follows s t) : Writes s t t.results := by
  cases h with
  | goesTo => exact .nothing
  | raises e =>
    rw [raise_sameResults]
    exact .nothing
  | tookR1 c k v p hp hc => exact .polledR1 c k v hp hc
  | tookR7 j u v p hp => exact .readR7 j u v hp
  | tookOcr j u v p hp => exact .readOcr j u v hp
  | tookResponse k d p hp => exact .polledDresp k d hp
  | rejected k d hp =>
    rw [raise_sameResults]
    exact .polledDresp k d hp
  | stored => exact .nothing
  | ended c r t hp ends => exact txnEnd_writes ends ⟨r, hp⟩
  | clockRaised hp => exact .initialized (.inl hp) ⟨rfl, rfl⟩ rfl rfl
  | leaves =>
    rw [leaveError_sameResults]
    exact .nothing

/-- What is written depends on no output and no record: `Writes` may be read at the state before the bus event. -/
theorem writes_before_event {s t : State} {w : Results} {l : Bool} {r : ClockRate} {tr : List BusEvent}
    {ca : List (Option Byte)} {d : Nat} {tu : List Turn}
    (h : Writes { s with turns := tu, csN := l, clkSel := r, trace := tr, card := ca, draws := d } t w) :
    Writes s t w := by
  cases h with
  | nothing => exact .nothing
  | polledR1 c k v hp hc => exact .polledR1 c k v hp hc
  | returnedR1 c v hc he => exact .returnedR1 c v hc he
  | readR7 j u v hp => exact .readR7 j u v hp
  | readOcr j u v hp => exact .readOcr j u v hp
  | polledDresp k d hp => exact .polledDresp k d hp
  | counted v he => exact .counted v he
  | initialized hp hi hq herr => exact .initialized hp hi hq herr
  | blockRead he hb herr => exact .blockRead he hb herr
  | csdRead he hb herr => exact .csdRead he hb herr
  | capacityRead n k he hop hb herr => exact .capacityRead n k he hop hb herr

section Writers

variable {s t : State} {w : Results} (h : Writes s t w)

include h

theorem writes_r1 (hne : w.r1 ≠ s.r1) :
    (∃ c k, s.phase = .pollR1 c k ∧ (c = .cmd8 ∨ c = .cmd58)) ∨ ∃ c, returnsR1 c ∧ endsTxn s c := by
  cases h with
  | polledR1 c k v hp hc => exact .inl ⟨c, k, hp, hc⟩
  | returnedR1 c v hc he => exact .inr ⟨c, hc, he⟩
  | counted v he => exact .inr ⟨.cmd55, .inr (.inl rfl), he⟩
  | _ => exact absurd rfl hne

theorem writes_r7 (hne : w.r7 ≠ s.r7) : ∃ j v, s.phase = .readFour .cmd8 j v := by
  cases h with
  | readR7 j u v hp => exact ⟨j, u, hp⟩
  | _ => exact absurd rfl hne

theorem writes_ocr (hne : w.ocr ≠ s.ocr) : ∃ j v, s.phase = .readFour .cmd58 j v := by
  cases h with
  | readOcr j u v hp => exact ⟨j, u, hp⟩
  | _ => exact absurd rfl hne

theorem writes_dresp (hne : w.dresp ≠ s.dresp) : ∃ k, s.phase = .pollDresp k := by
  cases h with
  | polledDresp k d hp => exact ⟨k, hp⟩
  | _ => exact absurd rfl hne

theorem writes_capacity (hne : w.csize ≠ s.csize ∨ w.capKib ≠ s.capKib) :
    s.opLat = opGetCapacity ∧ t.busy = false ∧ endsTxn s .cmd9 := by
  cases h with
  | capacityRead n k he hop hb => exact ⟨hop, hb, he⟩
  | _ => exact (hne.elim (· rfl) (· rfl)).elim

theorem writes_attempts (hne : w.attempts ≠ s.attempts) : w.attempts = s.attempts + 1 ∧ endsTxn s .cmd55 := by
  cases h with
  | counted v he => exact ⟨rfl, he⟩
  | _ => exact absurd rfl hne

theorem writes_ready (hne : w.ready ≠ s.ready) :
    w.ready = true ∧ (s.phase = .clkFast ∨ endsTxn s .cmd58) ∧ t.busy = false ∧ t.phase = .idle ∧
      t.seqState = .ready ∧ t.err = s.err := by
  cases h with
  | initialized hp hidle hq herr => exact ⟨rfl, hp, hidle.1, hidle.2, hq, herr⟩
  | _ => exact absurd rfl hne

theorem writes_bufValid (hne : w.bufValid ≠ s.bufValid) :
    w.bufValid = true ∧ endsTxn s .cmd17 ∧ t.busy = false ∧ t.err = s.err := by
  cases h with
  | blockRead he hb herr => exact ⟨rfl, he, hb, herr⟩
  | _ => exact absurd rfl hne

theorem writes_csdValid (hne : w.csdValid ≠ s.csdValid) :
    w.csdValid = true ∧ endsTxn s .cmd9 ∧ t.busy = false ∧ t.err = s.err := by
  cases h with
  | csdRead he hb herr => exact ⟨rfl, he, hb, herr⟩
  | capacityRead n k he hop hb herr => exact ⟨rfl, he, hb, herr⟩
  | _ => exact absurd rfl hne

theorem writes_capValid (hne : w.capValid ≠ s.capValid) :
    w.capValid = true ∧ s.opLat = opGetCapacity ∧ endsTxn s .cmd9 ∧ t.busy = false ∧ t.err = s.err := by
  cases h with
  | capacityRead n k he hop hb herr => exact ⟨rfl, hop, he, hb, herr⟩
  | _ => exact absurd rfl hne

end Writers

/-- The four ERR fields are written by the step that raises an error, and by no other of the controller's (R118). -/
theorem follows_errorFields {s t : State} (h : Follows s t) :
    (t.err = s.err ∧ t.errCause = s.errCause ∧ t.errSite = s.errSite ∧ t.errState = s.errState) ∨
    (s.phase ≠ .errorExit ∧ t.err ≠ .none ∧ t.errState = s.seqState ∧ (t.phase = .errorExit ∨ t.busy = false)) := by
  cases h with
  | raises e hp => exact .inr ⟨hp, raise_writes e s⟩
  | rejected k d hp => exact .inr ⟨by simp [hp], raise_writes _ { s with dresp := d }⟩
  | ended c r t hp ends =>
    cases ends with
    | fails e v =>
      refine .inr ⟨?_, raise_writes e { s with r1 := v }⟩
      rcases hp with hp | ⟨k, hp⟩ <;> simp [hp]
    | _ => exact .inl ⟨rfl, rfl, rfl, rfl⟩
  | leaves => exact .inl ⟨leaveError_err s, leaveError_errCause s, leaveError_errSite s, leaveError_errState s⟩
  | _ => exact .inl ⟨rfl, rfl, rfl, rfl⟩

/-- A request that ends without an error ends in the last step of INIT, or of one of the data transactions. -/
theorem follows_ends {s t : State} (h : Follows s t) (hb : s.busy = true) (ht : t.busy = false) (he : t.err = .none) :
    (s.phase = .errorExit ∧ t.err = s.err) ∨ t = completeInit s ∨ ∃ c, cmdOfInit c = false ∧ endsTxn s c := by
  cases h with
  | clockRaised => exact .inr (.inl rfl)
  | leaves hp => exact .inl ⟨hp, leaveError_err s⟩
  | ended c r t hp ends =>
    cases ends with
    | initialized => exact .inr (.inl rfl)
    | blockWritten hc | blockRead hc | csdRead hc | capacityRead _ _ hc => exact .inr (.inr ⟨c, by rw [hc]; rfl, r, hp⟩)
    | fails e v => exact absurd he (raise_writes e _).1
    | _ => exact nomatch hb.symm.trans ht
  | raises e => exact absurd he (raise_writes e s).1
  | rejected k d => exact absurd he (raise_writes _ _).1
  | _ => exact nomatch hb.symm.trans ht

end Sys2Proof.Machine
end

section
/-! SUPPORT. What a move of the host and a move of the controller write, put together from the lemmas about their
operations (spec/10_state.md R104 to R121). -/

namespace Sys2Proof.Machine

/-! ### The host -/

/-- The host writes none of the result registers, nor READY; of the count and the flags it writes what an acceptance or
a BUF write does. -/
theorem advance_host_results {s t : State} (h : advance s = .next t) (hw : whoMoves s = .host) :
    t.results = { s.results with
      attempts := t.attempts, bufValid := t.bufValid, csdValid := t.csdValid, capValid := t.capValid } := by
  rcases advance_host h hw with hd | ⟨v, -, hp⟩
  · cases hd <;> rfl
  · cases hp with
    | violates => rfl
    | refused => rfl
    | accepted i op => rw [requestStart_eq]; rfl

/-- A host move sets HOST_VIOLATION or leaves it (R121). -/
theorem advance_host_violation {s t : State} (h : advance s = .next t) (hw : whoMoves s = .host)
    (hv : s.hostViolation = true) : t.hostViolation = true := by
  rcases advance_host h hw with hd | ⟨v, -, hp⟩
  · cases hd with
    | marked => rfl
    | _ => exact hv
  · cases hp with
    | violates => rfl
    | refused => exact hv
    | accepted i op => rw [requestStart_eq]; exact hv

/-- ADDR is written by the host's write of it with BUSY = 0 (R109, R212). -/
theorem advance_host_addr {s t : State} (h : advance s = .next t) (hw : whoMoves s = .host) (hne : t.addr ≠ s.addr) :
    s.busy = false ∧ s.program[s.hpc]? = some (.wr .word 0x004 t.addr) := by
  rcases advance_host h hw with hd | ⟨v, -, hp⟩
  · cases hd with
    | wroteAddr v hl hb => exact ⟨hb, hl⟩
    | _ => exact absurd rfl hne
  · cases hp with
    | accepted i op => rw [requestStart_eq] at hne; exact absurd rfl hne
    | _ => exact absurd rfl hne

/-- The host's move that writes the attempt count is INIT's acceptance (R108). -/
theorem advance_host_attempts {s t : State} (h : advance s = .next t) (hw : whoMoves s = .host)
    (hne : t.attempts ≠ s.attempts) : t.attempts = 0 ∧ t.seqState = .reset := by
  rcases advance_host h hw with hd | ⟨v, -, hp⟩
  · cases hd <;> exact absurd rfl hne
  · cases hp with
    | accepted i op =>
      by_cases hi : i = .init
      · subst hi; exact ⟨rfl, rfl⟩
      · exact absurd (requestStart_attempts hi _) hne
    | _ => exact absurd rfl hne

/-- BUSY is set by an acceptance, in which ERR is 0 (R114, R611), and no move of the host clears it. -/
theorem advance_host_busy {s t : State} (h : advance s = .next t) (hw : whoMoves s = .host) :
    t.busy = s.busy ∨ (s.busy = false ∧ t.busy = true ∧ t.err = .none ∧
      ∃ v i, s.program[s.hpc]? = some (.wr .word 0x000 v) ∧ decodeRequest v = .ok i) := by
  rcases advance_host h hw with hd | ⟨v, hl, hp⟩
  · cases hd <;> exact .inl rfl
  · cases hp with
    | accepted i op hd _ hb => exact .inr ⟨hb, by simp, by rw [requestStart_eq]; rfl, v, i, hl, hd⟩
    | _ => exact .inl rfl

/-- The host's move is the acceptance of request `i` (R611). -/
def accepts (s t : State) (i : Instr) : Prop :=
  s.busy = false ∧ t.busy = true ∧ ∃ v, s.program[s.hpc]? = some (.wr .word 0x000 v) ∧ decodeRequest v = .ok i

/-- The host's moves that write BUF_VALID: READ_BLOCK's acceptance and a write to BUF (R115, R212). -/
theorem advance_host_bufValid {s t : State} (h : advance s = .next t) (hw : whoMoves s = .host)
    (hne : t.bufValid ≠ s.bufValid) :
    t.bufValid = false ∧ (accepts s t .readBlock ∨ (s.busy = false ∧
      ∃ off v, s.program[s.hpc]? = some (.wr .byte off v) ∧ 0x200 ≤ off.toNat)) := by
  rcases advance_host h hw with hd | ⟨v, hl, hp⟩
  · cases hd with
    | wroteBuf off v hl hb hbuf => exact ⟨rfl, .inr ⟨hb, off, v, hl, hbuf⟩⟩
    | _ => exact absurd rfl hne
  · cases hp with
    | accepted i op hd _ hb =>
      by_cases hi : i = .readBlock
      · subst hi
        exact ⟨rfl, .inl ⟨hb, rfl, v, hl, hd⟩⟩
      · exact absurd (requestStart_bufValid hi _) hne
    | _ => exact absurd rfl hne

/-- The host's moves that write CSD_VALID: the acceptances of READ_CSD and GET_CAPACITY (R116). -/
theorem advance_host_csdValid {s t : State} (h : advance s = .next t) (hw : whoMoves s = .host)
    (hne : t.csdValid ≠ s.csdValid) :
    t.csdValid = false ∧ (accepts s t .readCsd ∨ accepts s t .getCapacity) := by
  rcases advance_host h hw with hd | ⟨v, hl, hp⟩
  · cases hd <;> exact absurd rfl hne
  · cases hp with
    | accepted i op hd _ hb =>
      by_cases hi : i = .readCsd
      · subst hi
        exact ⟨rfl, .inl ⟨hb, rfl, v, hl, hd⟩⟩
      by_cases hi' : i = .getCapacity
      · subst hi'
        exact ⟨rfl, .inr ⟨hb, rfl, v, hl, hd⟩⟩
      · exact absurd (requestStart_csdValid hi hi' _) hne
    | _ => exact absurd rfl hne

/-- The host's move that writes CAP_VALID: GET_CAPACITY's acceptance (R117). -/
theorem advance_host_capValid {s t : State} (h : advance s = .next t) (hw : whoMoves s = .host)
    (hne : t.capValid ≠ s.capValid) : t.capValid = false ∧ accepts s t .getCapacity := by
  rcases advance_host h hw with hd | ⟨v, hl, hp⟩
  · cases hd <;> exact absurd rfl hne
  · cases hp with
    | accepted i op hd _ hb =>
      by_cases hi : i = .getCapacity
      · subst hi
        exact ⟨rfl, hb, rfl, v, hl, hd⟩
      · exact absurd (requestStart_capValid hi _) hne
    | _ => exact absurd rfl hne

/-- The host's moves that write the ERR fields: an acceptance, which clears them, and a refusal (R118, R611, R620). -/
theorem advance_host_errorFields {s t : State} (h : advance s = .next t) (hw : whoMoves s = .host) :
    (t.err = s.err ∧ t.errCause = s.errCause ∧ t.errSite = s.errSite ∧ t.errState = s.errState) ∨
    (s.busy = false ∧ (∃ v, s.program[s.hpc]? = some (.wr .word 0x000 v)) ∧
      ((t.busy = true ∧ t.err = .none ∧ t.errCause = .none ∧ t.errSite = .none ∧ t.errState = .uninit) ∨
       (t.busy = false ∧ t.err = .requestRefused ∧ t.errSite = .none ∧ t.errState = s.seqState))) := by
  rcases advance_host h hw with hd | ⟨v, hl, hp⟩
  · cases hd <;> exact .inl ⟨rfl, rfl, rfl, rfl⟩
  · cases hp with
    | violates => exact .inl ⟨rfl, rfl, rfl, rfl⟩
    | refused cause hb => exact .inr ⟨hb, ⟨v, hl⟩, .inr ⟨hb, rfl, rfl, rfl⟩⟩
    | accepted i op _ _ hb =>
      refine .inr ⟨hb, ⟨v, hl⟩, .inl ?_⟩
      rw [requestStart_eq]
      exact ⟨by simp, rfl, rfl, rfl, rfl⟩

/-- While BUSY = 1 the host changes nothing of the block but HOST_VIOLATION (R114, R215). -/
theorem advance_host_while_busy {s t : State} (h : advance s = .next t) (hw : whoMoves s = .host)
    (hb : s.busy = true) :
    t = { s with hostViolation := t.hostViolation, refusalMark := t.refusalMark, draws := t.draws, hpc := t.hpc,
                 turns := t.turns, replies := t.replies } := by
  rcases advance_host h hw with hd | ⟨v, -, hp⟩
  · cases hd with
    | own => rfl
    | marked => rfl
    | wroteAddr _ _ hi => exact nomatch hb.symm.trans hi
    | wroteBuf _ _ _ hi => exact nomatch hb.symm.trans hi
  · cases hp with
    | violates => rfl
    | refused _ hi => exact nomatch hb.symm.trans hi
    | accepted _ _ _ _ hi => exact nomatch hb.symm.trans hi

/-! ### The controller -/

/-- A move of the running controller: the lines of its step, run on the state right after the bus event. -/
theorem advance_follows {s t : State} (h : advance s = .next t) (hw : whoMoves s = .controller)
    (hidle : s.phase ≠ .idle) : ∃ l r tr ca d, Follows
      { s with turns := s.turns.tail, csN := l, clkSel := r, trace := tr, card := ca, draws := d } t := by
  obtain ⟨u, hb, hf⟩ := advance_controller h hw hidle
  rw [busStep_eq hb] at hf
  exact ⟨_, _, _, _, _, hf⟩

/-- A move of the controller leaves the latches, ADDR and HOST_VIOLATION alone. -/
theorem advance_controller_outside {s t : State} (h : advance s = .next t) (hw : whoMoves s = .controller) :
    t.addr = s.addr ∧ t.hostViolation = s.hostViolation := by
  by_cases hidle : s.phase = .idle
  · rw [advance_controller_idle h hw hidle]
    exact ⟨rfl, rfl⟩
  · obtain ⟨l, r, tr, ca, d, hf⟩ := advance_follows h hw hidle
    exact ⟨(follows_sameOutside hf).addr, (follows_sameOutside hf).hostViolation⟩

/-- A move of the controller writes results as its phase allows, and none with no request running (R703, R727). -/
theorem advance_controller_writes {s t : State} (h : advance s = .next t) (hw : whoMoves s = .controller) :
    Writes s t t.results := by
  by_cases hidle : s.phase = .idle
  · rw [advance_controller_idle h hw hidle]
    exact .nothing
  · obtain ⟨l, r, tr, ca, d, hf⟩ := advance_follows h hw hidle
    exact writes_before_event (follows_writes hf)

/-- A move of the controller writes the ERR fields where it raises an error, and there only (R118, R612). -/
theorem advance_controller_errorFields {s t : State} (h : advance s = .next t) (hw : whoMoves s = .controller) :
    (t.err = s.err ∧ t.errCause = s.errCause ∧ t.errSite = s.errSite ∧ t.errState = s.errState) ∨
    (s.phase ≠ .idle ∧ s.phase ≠ .errorExit ∧ t.err ≠ .none ∧ t.errState = s.seqState ∧
      (t.phase = .errorExit ∨ t.busy = false)) := by
  by_cases hidle : s.phase = .idle
  · rw [advance_controller_idle h hw hidle]
    exact .inl ⟨rfl, rfl, rfl, rfl⟩
  · obtain ⟨l, r, tr, ca, d, hf⟩ := advance_follows h hw hidle
    exact (follows_errorFields hf).imp id fun hr => ⟨hidle, hr⟩

/-! ### The running request under the invariant -/

/-- While a request runs, INIT is in its preamble or before `ClkSet(FAST)`, or a transaction runs (R131, R132). -/
theorem positionOk_running {s : State} (h : positionOk s) (hp : s.phase ≠ .idle) :
    (∃ q, (q = .reset ∨ q = .readOcr) ∧ inInit s q) ∨ ∃ c, inTxn s c := by
  unfold positionOk at h
  cases hph : s.phase <;> simp only [hph] at h hp
  case idle => exact absurd rfl hp
  case clkSlow | preambleCs => exact .inl ⟨.reset, .inl rfl, h⟩
  case powerDummy => exact .inl ⟨.reset, .inl rfl, h.1⟩
  case clkFast => exact .inl ⟨.readOcr, .inr rfl, h.1⟩
  case issue => exact .inr (h.imp fun _ hc => hc.1)
  case errorExit => exact .inr h.1
  case select | sendToken | sendCrc0 | sendCrc1 | deselect => exact .inr ⟨_, h⟩
  all_goals exact .inr ⟨_, h.1⟩

/-- The state in which a transaction ends: its request runs, without an error so far. -/
theorem endsTxn_state {s : State} {c : Cmd} (hi : Inv s) (h : endsTxn s c) :
    inTxn s c ∧ s.busy = true ∧ s.err = .none := by
  have pos := hi.position
  obtain ⟨r, hp | ⟨k, hp⟩⟩ := h
  · simp only [positionOk, hp] at pos
    have hb : s.busy = true := hi.busy_iff.2 (by simp [hp])
    exact ⟨pos, hb, hi.no_error_yet hb (by simp [hp])⟩
  · simp only [positionOk, hp] at pos
    have hb : s.busy = true := hi.busy_iff.2 (by simp [hp])
    exact ⟨pos.1, hb, hi.no_error_yet hb (by simp [hp])⟩

/-- INIT is judged done in READ_OCR, its request running without an error so far (R476, R479). -/
theorem initDone_state {s : State} (hi : Inv s) (h : s.phase = .clkFast ∨ endsTxn s .cmd58) :
    s.opLat = opInit ∧ s.seqState = .readOcr ∧ s.err = .none := by
  rcases h with hp | he
  · have pos := hi.position
    simp only [positionOk, hp] at pos
    obtain ⟨⟨hq, hop, -⟩, -⟩ := pos
    exact ⟨hop, hq, hi.no_error_yet (hi.busy_iff.2 (by simp [hp])) (by simp [hp])⟩
  · obtain ⟨⟨hq, hop, -⟩, -, herr⟩ := endsTxn_state hi he
    exact ⟨hop, hq, herr⟩

/-- INIT's count is within the bound of R477 whatever INIT is at. -/
theorem init_attempts {s : State} (hi : Inv s) (hop : s.opLat = opInit) (hb : s.busy = true) :
    s.attempts ≤ s.cfg.opcondRetryLimit ∧ (s.seqState = .operatingConditionPoll → 1 ≤ s.attempts) := by
  have att := hi.attempts hb
  unfold attemptsOk at att
  rcases positionOk_running hi.position (hi.busy_iff.1 hb) with ⟨q, hq, hq', -, -⟩ | ⟨c, hin⟩
  · rcases hq with rfl | rfl <;> simp only [hq'] at att ⊢
    · exact ⟨by omega, nofun⟩
    · exact ⟨att.2, nofun⟩
  · have hq := hin.1
    cases c <;> simp only [hq, cmdState] at att ⊢
    case cmd0 | cmd8 => exact ⟨by omega, nofun⟩
    case cmd55 => exact ⟨by omega, nofun⟩
    case acmd41 => exact ⟨att.2, fun _ => att.1⟩
    case cmd58 => exact ⟨att.2, nofun⟩
    case cmd17 => exact absurd hop (inTxn_not_init hin rfl)
    case cmd24 => exact absurd hop (inTxn_not_init hin rfl)
    case cmd9 => exact absurd hop (inTxn_not_init hin rfl)

end Sys2Proof.Machine
end

section
/-! SUPPORT. The STATUS word bit by bit (spec/10_state.md R112): a field of `n` bits placed from bit `lo` up is read
back at its bits and is 0 at every other. -/

namespace Sys2Proof.Machine

theorem placed_bit_inside {n lo i : Nat} (v : BitVec n) (h : lo ≤ i) (_ : i < lo + n) (hi : i < 32) :
    (placed lo v).getLsbD i = v.getLsbD (i - lo) := by
  have hlt : i - lo < 32 := by omega
  simp only [placed, BitVec.getLsbD_shiftLeft, BitVec.getLsbD_setWidth, hi, hlt, Nat.not_lt.2 h, decide_true,
    decide_false, Bool.not_false, Bool.true_and]

theorem placed_bit_outside {n lo i : Nat} (v : BitVec n) (h : i < lo ∨ lo + n ≤ i) :
    (placed lo v).getLsbD i = false := by
  simp only [placed, BitVec.getLsbD_shiftLeft, BitVec.getLsbD_setWidth]
  rcases h with h | h
  · simp [h]
  · simp [BitVec.getLsbD_of_ge v (i - lo) (by omega)]

theorem statusWord_bit (s : State) (i : Nat) :
    (statusWord s).getLsbD i =
      ((placed 0 (BitVec.ofBool s.busy)).getLsbD i || (placed 1 (BitVec.ofBool s.ready)).getLsbD i ||
        (placed 2 (BitVec.ofBool s.bufValid)).getLsbD i || (placed 3 (BitVec.ofBool s.csdValid)).getLsbD i ||
        (placed 4 (BitVec.ofBool s.capValid)).getLsbD i || (placed 5 (BitVec.ofBool s.clkFast)).getLsbD i ||
        (placed 6 (BitVec.ofBool s.csActive)).getLsbD i || (placed 7 (BitVec.ofBool s.hostViolation)).getLsbD i ||
        (placed 8 s.err.code).getLsbD i || (placed 12 s.errCause.code).getLsbD i ||
        (placed 16 s.errSite.code).getLsbD i || (placed 20 s.seqState.code).getLsbD i ||
        (placed 24 s.errState.code).getLsbD i) := by
  simp only [statusWord, BitVec.getLsbD_or]

theorem statusWord_nibble {s : State} {lo : Nat} {v : BitVec 4}
    (h : ∀ i, i < 4 → (statusWord s).getLsbD (lo + i) = v.getLsbD i) : (statusWord s).extractLsb' lo 4 = v := by
  apply BitVec.eq_of_getLsbD_eq
  intro i hi
  rw [BitVec.getLsbD_extractLsb', decide_eq_true hi, Bool.true_and, h i hi]

/-- The one-bit fields of STATUS, bits 0 to 7. -/
theorem statusWord_flags (s : State) :
    (statusWord s).getLsbD 0 = s.busy ∧ (statusWord s).getLsbD 1 = s.ready ∧
    (statusWord s).getLsbD 2 = s.bufValid ∧ (statusWord s).getLsbD 3 = s.csdValid ∧
    (statusWord s).getLsbD 4 = s.capValid ∧ (statusWord s).getLsbD 5 = s.clkFast ∧
    (statusWord s).getLsbD 6 = s.csActive ∧ (statusWord s).getLsbD 7 = s.hostViolation := by
  refine ⟨?_, ?_, ?_, ?_, ?_, ?_, ?_, ?_⟩ <;>
    simp (disch := omega) only [statusWord_bit, placed_bit_inside, placed_bit_outside, Bool.or_false, Bool.false_or,
      Nat.sub_self, BitVec.getLsbD_ofBool, decide_true, Bool.true_and]

/-- The four-bit fields of STATUS, bits 8 to 31. -/
theorem statusWord_codes (s : State) :
    (statusWord s).extractLsb' 8 4 = s.err.code ∧ (statusWord s).extractLsb' 12 4 = s.errCause.code ∧
    (statusWord s).extractLsb' 16 4 = s.errSite.code ∧ (statusWord s).extractLsb' 20 4 = s.seqState.code ∧
    (statusWord s).extractLsb' 24 4 = s.errState.code ∧ (statusWord s).extractLsb' 28 4 = 0#4 := by
  refine ⟨?_, ?_, ?_, ?_, ?_, ?_⟩ <;>
    refine statusWord_nibble fun i hi => ?_ <;>
    simp (disch := omega) only [statusWord_bit, placed_bit_inside, placed_bit_outside, Bool.or_false, Bool.false_or,
      Nat.add_sub_cancel_left, BitVec.getLsbD_zero]

end Sys2Proof.Machine
end

section
/-! SUPPORT. What an instruction's own step leaves unchanged, a request's and a frame's (spec/41_command_framing.md R403
to R410, spec/60_exceptions.md R611 to R622). -/

namespace Sys2Proof.Machine

/-- Every instruction is a request, or the frame of a command (R321, R305). -/
theorem instr_cases (i : Instr) : (∃ op, i.opcode = some op) ∨ (i.opcode = none ∧ ∃ c a, i = Cmd.instr a c) := by
  cases i
  case init | readBlock | writeBlock | readCsd | getCapacity => exact .inl ⟨_, rfl⟩
  case cmd0 => exact .inr ⟨rfl, .cmd0, 0, rfl⟩
  case cmd8 => exact .inr ⟨rfl, .cmd8, 0, rfl⟩
  case cmd55 => exact .inr ⟨rfl, .cmd55, 0, rfl⟩
  case acmd41 => exact .inr ⟨rfl, .acmd41, 0, rfl⟩
  case cmd17 a => exact .inr ⟨rfl, .cmd17, a, rfl⟩
  case cmd24 a => exact .inr ⟨rfl, .cmd24, a, rfl⟩
  case cmd58 => exact .inr ⟨rfl, .cmd58, 0, rfl⟩
  case cmd9 => exact .inr ⟨rfl, .cmd9, 0, rfl⟩

/-- What every outcome of a presented request keeps, it keeps (R611, R620, R622). -/
theorem present_keeps {α : Type} (f : State → α) {i : Instr} {op : Byte} {needsReady : Bool} {s : State}
    (hv : f (violation s) = f s) (hr : ∀ c, f (refuse c s) = f s) (ha : f (requestStart i (accept op s)) = f s) :
    f (present op needsReady (requestStart i) s) = f s := by
  rcases present_cases op needsReady (requestStart i) s with ⟨-, e⟩ | ⟨-, -, e⟩ | ⟨-, -, e⟩ <;> rw [e]
  · exact hv
  · exact ha
  · exact hr _

/-- What a presented request may write (R611, R620, R622). -/
theorem present_eq (i : Instr) (op : Byte) (needsReady : Bool) (s : State) :
    ∃ t : State, present op needsReady (requestStart i) s = { s with
      attempts := t.attempts, busy := t.busy, bufValid := t.bufValid, csdValid := t.csdValid, capValid := t.capValid,
      hostViolation := t.hostViolation, refusalMark := t.refusalMark, err := t.err, errCause := t.errCause,
      errSite := t.errSite, errState := t.errState, seqState := t.seqState, phase := t.phase, opLat := t.opLat,
      aLat := t.aLat, draws := t.draws } := by
  rcases present_cases op needsReady (requestStart i) s with ⟨-, e⟩ | ⟨-, -, e⟩ | ⟨-, -, e⟩ <;> rw [e]
  · exact ⟨violation s, rfl⟩
  · exact ⟨requestStart i (accept op s), by rw [requestStart_eq]; rfl⟩
  · exact ⟨refuse _ s, rfl⟩

section Flags

variable {i : Instr} {op : Byte} {needsReady : Bool} {s : State}

theorem present_attempts (h : i ≠ .init) : (present op needsReady (requestStart i) s).attempts = s.attempts :=
  present_keeps State.attempts rfl (fun _ => rfl) (requestStart_attempts h _)

theorem present_bufValid (h : i ≠ .readBlock) : (present op needsReady (requestStart i) s).bufValid = s.bufValid :=
  present_keeps State.bufValid rfl (fun _ => rfl) (requestStart_bufValid h _)

theorem present_csdValid (h : i ≠ .readCsd) (h' : i ≠ .getCapacity) :
    (present op needsReady (requestStart i) s).csdValid = s.csdValid :=
  present_keeps State.csdValid rfl (fun _ => rfl) (requestStart_csdValid h h' _)

theorem present_capValid (h : i ≠ .getCapacity) :
    (present op needsReady (requestStart i) s).capValid = s.capValid :=
  present_keeps State.capValid rfl (fun _ => rfl) (requestStart_capValid h _)

/-- With BUSY = 0 a presented request is no host violation (R622). -/
theorem present_marks (h : s.busy = false) :
    (present op needsReady (requestStart i) s).hostViolation = s.hostViolation ∧
    (present op needsReady (requestStart i) s).refusalMark = s.refusalMark := by
  rcases present_cases op needsReady (requestStart i) s with ⟨hb, -⟩ | ⟨-, -, e⟩ | ⟨-, -, e⟩
  · exact nomatch h.symm.trans hb
  · rw [e, requestStart_eq]
    exact ⟨rfl, rfl⟩
  · rw [e]
    exact ⟨rfl, rfl⟩

end Flags

/-- What raising an error may write (R612, R613). -/
theorem raise_eq (e : Error) (s : State) :
    raise e s = { s with
      err := (raise e s).err, errCause := (raise e s).errCause, errSite := (raise e s).errSite,
      errState := (raise e s).errState, seqState := (raise e s).seqState, busy := (raise e s).busy,
      phase := (raise e s).phase, mem := (raise e s).mem } := by
  rcases Bool.eq_false_or_eq_true s.csN with h | h
  · rw [raise_deselected h, leaveError, forgetFilled_eq]; rfl
  · rw [raise_selected h]; rfl

/-- What a frame's step may write (R402, R612). -/
theorem sendFrame_eq (c : Cmd) (f : FrameWord) (s : State) :
    sendFrame c f s = { s with
      trace := (sendFrame c f s).trace, card := (sendFrame c f s).card, draws := (sendFrame c f s).draws,
      err := (sendFrame c f s).err, errCause := (sendFrame c f s).errCause, errSite := (sendFrame c f s).errSite,
      errState := (sendFrame c f s).errState, seqState := (sendFrame c f s).seqState,
      busy := (sendFrame c f s).busy, phase := (sendFrame c f s).phase, mem := (sendFrame c f s).mem } := by
  unfold sendFrame
  rcases sendByte_cases (frameByte f 0) (fun t => { t with phase := .frame c f 1 }) s with e | e <;> rw [e]
  · rfl
  · rw [raise_eq]; rfl

/-- With the transport answering, or the card selected, a frame's step ends no request (R612). -/
theorem sendFrame_running {c : Cmd} {f : FrameWord} {s : State} (h : s.csN = false ∨ cardReply s ≠ none) :
    (sendFrame c f s).seqState = s.seqState ∧ (sendFrame c f s).busy = s.busy ∧ (sendFrame c f s).mem = s.mem := by
  unfold sendFrame
  cases hr : cardReply s with
  | some b =>
    rw [sendByte_answer hr]
    exact ⟨rfl, rfl, rfl⟩
  | none =>
    have hc : (exchange (frameByte f 0) s).csN = false := h.resolve_right (· hr)
    rw [sendByte_failure hr, raise_selected hc]
    exact ⟨rfl, rfl, rfl⟩

end Sys2Proof.Machine
end

section
/-! The statements of the state file (spec/10_state.md). -/

namespace Sys2Proof.Proofs

open Sys2Proof Sys2Proof.Machine

/-- Settles O53: a step is a move of one agent, and every move keeps the invariant (`advance_inv`). -/
theorem everyStepKeepsTheInvariant : Obligations.EveryStepKeepsTheInvariant := by
  unfold Obligations.EveryStepKeepsTheInvariant
  exact fun s t h e => advance_inv h (advance_of_step e).2

/-- Settles O54: every move keeps the promises of the flags (`advance_results`). -/
theorem everyStepKeepsTheResults : Obligations.EveryStepKeepsTheResults := by
  unfold Obligations.EveryStepKeepsTheResults
  exact fun s t hi h e => advance_results hi h (advance_of_step e).2

/-- Settles O55: every move keeps the outputs as the trace says (`advance_traceOk`). -/
theorem everyStepKeepsTheTrace : Obligations.EveryStepKeepsTheTrace := by
  unfold Obligations.EveryStepKeepsTheTrace
  exact fun s t hi h e => advance_traceOk hi h (advance_of_step e).2

/-- Settles O52: `Inv` holds after every reset of an admitted configuration, and a reset sets no flag and leaves an
empty trace. -/
theorem resetMeetsTheInvariants : Obligations.ResetMeetsTheInvariants := by
  unfold Obligations.ResetMeetsTheInvariants
  exact ⟨resetAt_inv thisHardware_wf 0, ⟨nofun, nofun, nofun, trivial⟩, ⟨rfl, rfl, rfl⟩⟩

/-- Settles O12: a request's outcomes (`present_eq`, `present_keeps`) and a frame's first byte (`sendFrame_eq`). -/
theorem instructionStepFrame : Obligations.InstructionStepFrame := by
  unfold Obligations.InstructionStepFrame
  intro i s t h
  rcases instr_cases i with ⟨op, hop⟩ | ⟨hop, c, a, rfl⟩
  · rw [exec_request hop] at h
    obtain rfl := Host.Outcome.next.inj h
    have attempts := present_attempts (i := i) (op := op) (needsReady := decide (i ≠ .init)) (s := s)
    have buf := present_bufValid (i := i) (op := op) (needsReady := decide (i ≠ .init)) (s := s)
    have csd := present_csdValid (i := i) (op := op) (needsReady := decide (i ≠ .init)) (s := s)
    have cap := present_capValid (i := i) (op := op) (needsReady := decide (i ≠ .init)) (s := s)
    have marks := present_marks (i := i) (op := op) (needsReady := decide (i ≠ .init)) (s := s)
    obtain ⟨u, e⟩ := present_eq i op (decide (i ≠ .init)) s
    rw [e] at attempts buf csd cap marks ⊢
    exact ⟨rfl, rfl, rfl, rfl, rfl, rfl, rfl, rfl, rfl, rfl, rfl, rfl, rfl, rfl, rfl,
      fun hi => ⟨attempts hi, opcondAttempts_congr (attempts hi)⟩, marks, buf, csd, cap,
      fun _ => ⟨rfl, rfl, fun _ => rfl⟩, fun hn => (nomatch hop.symm.trans hn)⟩
  · rw [exec_frame] at h
    obtain rfl := Host.Outcome.next.inj h
    have running := sendFrame_running (c := c) (f := assembleFrame s.cfg.frameCrc c.index (c.argument a)) (s := s)
    rw [sendFrame_eq]
    refine ⟨rfl, rfl, rfl, rfl, rfl, rfl, rfl, rfl, rfl, rfl, rfl, rfl, rfl, rfl, rfl, fun _ => ⟨rfl, rfl⟩,
      fun _ => ⟨rfl, rfl⟩, fun _ => rfl, fun _ _ => rfl, fun _ => rfl, fun hs => ?_,
      fun _ => ⟨rfl, rfl, rfl, rfl, fun hr => ?_⟩⟩
    · simp [hop] at hs
    · obtain ⟨hq, hb, hm⟩ := running hr
      exact ⟨hq, hb, fun x => congrArg (Memory.read · x) hm⟩

/-- Settles O39: the fields of STATUS bit by bit, and the code tables. -/
theorem statusFieldsAreWhereTheyStand : Obligations.StatusFieldsAreWhereTheyStand := by
  unfold Obligations.StatusFieldsAreWhereTheyStand
  refine ⟨fun s => ?_, by decide, by decide, by decide, by decide⟩
  obtain ⟨busy, ready, buf, csd, cap, clk, cs, hv⟩ := statusWord_flags s
  exact ⟨busy, ready, buf, csd, cap, clk, cs, hv, statusWord_codes s⟩

/-- Settles O5: the host's line is a REQ write, so its move presents the request. -/
theorem stepRunsThePresentedRequest : Obligations.StepRunsThePresentedRequest := by
  unfold Obligations.StepRunsThePresentedRequest
  intro s v hm hw hl
  have hmove : hostMove (takeTurn s) = .request v { takeTurn s with hpc := s.hpc + 1 } := by
    simp [hostMove, hl]
  have hstep : step s = runRequest v { takeTurn s with hpc := s.hpc + 1 } := by
    simp only [step_unmarked hm, advance, hw, hostTurn, hmove]
  refine ⟨fun i hi => ?_, fun e he => ?_⟩
  · rw [hstep, runRequest, hi]; rfl
  · rw [hstep, runRequest, he]; rfl

/-- Settles O48: the host's moves never clear HOST_VIOLATION, the controller's leave it alone, and reset clears it. -/
theorem hostViolationIsSticky : Obligations.HostViolationIsSticky := by
  unfold Obligations.HostViolationIsSticky
  intro s t h
  cases hw : whoMoves s with
  | host =>
    refine ⟨fun hv ht => ?_, fun _ _ => rfl⟩
    exact nomatch (advance_host_violation h hw hv).symm.trans ht
  | controller =>
    have e : t.hostViolation = s.hostViolation := (advance_controller_outside h hw).2
    exact ⟨fun hv ht => (nomatch (e.trans hv).symm.trans ht), fun hv ht => (nomatch (e.trans hv).symm.trans ht)⟩
  | platformReset =>
    refine ⟨fun _ _ => rfl, fun _ ht => ?_⟩
    rcases advance_cases h with ⟨-, rfl⟩ | ⟨hw', -⟩ | ⟨hw', -⟩
    · exact nomatch ht
    · exact nomatch hw.symm.trans hw'
    · exact nomatch hw.symm.trans hw'

/-- Settles O49: of the moves that set BUSY only the host's acceptance does, and a busy block lets the host's moves
change nothing but the violation marks. -/
theorem busyBelongsToTheController : Obligations.BusyBelongsToTheController := by
  unfold Obligations.BusyBelongsToTheController
  intro s t hi h
  have ha : advance s = .next t := (advance_of_step h).2
  refine ⟨fun hb ht => ?_, fun hb ht hw => ?_, fun hb hw => advance_host_while_busy ha hw hb⟩
  · cases hw : whoMoves s with
    | host =>
      rcases advance_host_busy ha hw with e | ⟨-, -, herr, hreq⟩
      · exact nomatch (e.trans hb).symm.trans ht
      · exact ⟨rfl, herr, hreq⟩
    | controller =>
      rw [advance_controller_idle ha hw (idle_phase hi hb)] at ht
      exact nomatch hb.symm.trans ht
    | platformReset =>
      rcases advance_cases ha with ⟨-, rfl⟩ | ⟨hw', -⟩ | ⟨hw', -⟩
      · exact nomatch ht
      · exact nomatch hw.symm.trans hw'
      · exact nomatch hw.symm.trans hw'
  · rcases advance_host_busy ha hw with e | ⟨hb', -⟩
    · exact nomatch (e.trans hb).symm.trans ht
    · exact nomatch hb.symm.trans hb'

/-- Settles O47: READY is written by `completeInit` alone, which stands at the end of READ_OCR, and by reset. -/
theorem readyComesFromInitOnly : Obligations.ReadyComesFromInitOnly := by
  unfold Obligations.ReadyComesFromInitOnly
  refine ⟨rfl, fun s t hi h => ?_⟩
  have ha : advance s = .next t := (advance_of_step h).2
  have host (hw : whoMoves s = .host) : t.ready = s.ready := congrArg Results.ready (advance_host_results ha hw)
  refine ⟨fun hs ht => ?_, fun hs ht => ?_, fun hw hop hb ht he => ?_, fun hw hp => ?_⟩
  · have hne : t.ready ≠ s.ready := by simp [hs, ht]
    cases hw : whoMoves s with
    | host => exact absurd (host hw) hne
    | platformReset =>
      rcases advance_cases ha with ⟨-, rfl⟩ | ⟨hw', -⟩ | ⟨hw', -⟩
      · exact nomatch ht
      · exact nomatch hw.symm.trans hw'
      · exact nomatch hw.symm.trans hw'
    | controller =>
      obtain ⟨-, hp, hb, hidle, hq, herr⟩ := writes_ready (advance_controller_writes ha hw) hne
      obtain ⟨hop, hocr, hs0⟩ := initDone_state hi hp
      have hc : t.csN = true := by simpa [hidle, phaseLevel] using (advance_inv hi ha).level
      exact ⟨rfl, hop, hocr, hb, hidle, hq, herr.trans hs0, hc⟩
  · have hne : t.ready ≠ s.ready := by simp [hs, ht]
    cases hw : whoMoves s with
    | host => exact absurd (host hw) hne
    | controller => exact nomatch (writes_ready (advance_controller_writes ha hw) hne).1.symm.trans ht
    | platformReset => rfl
  · obtain ⟨l, r, tr, ca, d, hf⟩ := advance_follows ha hw (hi.busy_iff.1 hb)
    rcases follows_ends hf hb ht he with ⟨hp, e⟩ | rfl | ⟨c, hc, hend⟩
    · have pos := hi.position
      simp only [positionOk, show s.phase = .errorExit from hp] at pos
      exact absurd (e.symm.trans he) pos.2
    · exact ⟨rfl, rfl⟩
    · exact absurd hop (inTxn_not_init (endsTxn_state hi hend).1 hc)
  · rcases advance_cases ha with ⟨hw', -⟩ | ⟨hw', -⟩ | ⟨-, ⟨f, _, _, hf, -⟩ | ⟨-, rfl⟩⟩
    · exact nomatch hw.symm.trans hw'
    · exact nomatch hw.symm.trans hw'
    · exact nomatch hp.symm.trans hf
    · simp only [seqStep, takeTurn_phase, hp]
      rfl

/-- Settles O50: the host writes no result register, and the controller those that `Writes` names. -/
theorem resultRegistersHaveTheirWriters : Obligations.ResultRegistersHaveTheirWriters := by
  unfold Obligations.ResultRegistersHaveTheirWriters
  refine ⟨fun s t h hnr => ?_, fun s => opcondAttempts_toNat, fun s hi hop hb => init_attempts hi hop hb⟩
  have ha : advance s = .next t := (advance_of_step h).2
  cases hw : whoMoves s with
  | platformReset => exact absurd hw hnr
  | host =>
    have e := advance_host_results ha hw
    refine ⟨fun hne => absurd (congrArg Results.r1 e) hne, fun hne => absurd (congrArg Results.r7 e) hne,
      fun hne => absurd (congrArg Results.ocr e) hne, fun hne => absurd (congrArg Results.dresp e) hne,
      fun hne => ?_, fun hne => .inr ⟨rfl, advance_host_attempts ha hw hne⟩,
      fun hne e => hne (opcondAttempts_congr e), fun hne => ⟨rfl, advance_host_addr ha hw hne⟩⟩
    exact (hne.elim (· (congrArg Results.csize e)) (· (congrArg Results.capKib e))).elim
  | controller =>
    have w := advance_controller_writes ha hw
    refine ⟨fun hne => ⟨rfl, ?_⟩, fun hne => ⟨rfl, writes_r7 w hne⟩, fun hne => ⟨rfl, writes_ocr w hne⟩,
      fun hne => ⟨rfl, writes_dresp w hne⟩, fun hne => ⟨rfl, writes_capacity w hne⟩,
      fun hne => .inl ⟨rfl, writes_attempts w hne⟩, fun hne e => hne (opcondAttempts_congr e),
      fun hne => absurd (advance_controller_outside ha hw).1 hne⟩
    rcases writes_r1 w hne with hp | ⟨c, hc, r, hp⟩
    · exact .inl hp
    · exact .inr ⟨c, r, hc, hp⟩

/-- Settles O57: the flags' and the ERR fields' writers, the host's acceptances and accesses and the controller's last
or raising steps. -/
theorem statusFlagsHaveTheirWriters : Obligations.StatusFlagsHaveTheirWriters := by
  unfold Obligations.StatusFlagsHaveTheirWriters
  intro s t hi h hnr accepted succeeded
  have ha : advance s = .next t := (advance_of_step h).2
  have unchanged {P : Prop}
      (e : t.err = s.err ∧ t.errCause = s.errCause ∧ t.errSite = s.errSite ∧ t.errState = s.errState)
      (hne : t.err ≠ s.err ∨ t.errCause ≠ s.errCause ∨ t.errSite ≠ s.errSite ∨ t.errState ≠ s.errState) : P := by
    obtain ⟨h1, h2, h3, h4⟩ := e
    exact (hne.elim (· h1) (·.elim (· h2) (·.elim (· h3) (· h4)))).elim
  cases hw : whoMoves s with
  | platformReset => exact absurd hw hnr
  | host =>
    have acc {i : Instr} (ac : accepts s t i) : accepted i := ⟨hw, ac⟩
    refine ⟨fun hne => ?_, fun hne => ?_, fun hne => ?_, fun hne => ?_⟩
    · obtain ⟨hv, hac | hbuf⟩ := advance_host_bufValid ha hw hne
      · exact .inr ⟨hv, .inl (acc hac)⟩
      · exact .inr ⟨hv, .inr ⟨rfl, hbuf⟩⟩
    · obtain ⟨hv, hac⟩ := advance_host_csdValid ha hw hne
      exact .inr ⟨hv, hac.imp acc acc⟩
    · obtain ⟨hv, hac⟩ := advance_host_capValid ha hw hne
      exact .inr ⟨hv, acc hac⟩
    · rcases advance_host_errorFields ha hw with e | ⟨hb, hl, ⟨hb', h1, h2, h3, h4⟩ | hr⟩
      · exact unchanged e hne
      · exact .inl ⟨rfl, hb, hl, .inl ⟨hb', h1, h2, h3, by rw [h4]; rfl⟩⟩
      · exact .inl ⟨rfl, hb, hl, .inr hr⟩
  | controller =>
    have w := advance_controller_writes ha hw
    have done {c : Cmd} {op : Byte} (he : endsTxn s c) (hop : s.opLat = op) (hb : t.busy = false)
        (herr : t.err = s.err) : succeeded op := by
      obtain ⟨-, hs, hs0⟩ := endsTxn_state hi he
      exact ⟨hw, hop, hs, hb, herr.trans hs0⟩
    refine ⟨fun hne => .inl ?_, fun hne => .inl ?_, fun hne => .inl ?_, fun hne => ?_⟩
    · obtain ⟨hv, he, hb, herr⟩ := writes_bufValid w hne
      obtain ⟨⟨-, hop, -⟩, -⟩ := endsTxn_state hi he
      exact ⟨hv, done he hop hb herr⟩
    · obtain ⟨hv, he, hb, herr⟩ := writes_csdValid w hne
      obtain ⟨⟨-, hop, -⟩, -⟩ := endsTxn_state hi he
      exact ⟨hv, hop.imp (done he · hb herr) (done he · hb herr)⟩
    · obtain ⟨hv, hop, he, hb, herr⟩ := writes_capValid w hne
      exact ⟨hv, done he hop hb herr⟩
    · rcases advance_controller_errorFields ha hw with e | ⟨hidle, hexit, hr⟩
      · exact unchanged e hne
      · have hb : s.busy = true := hi.busy_iff.2 hidle
        exact .inr ⟨rfl, hb, hi.no_error_yet hb hexit, hr⟩

end Sys2Proof.Proofs
end

section
/-! SUPPORT. The bytes of an assembled frame (spec/20_memory.md R205, spec/41_command_framing.md R401). -/

namespace Sys2Proof

/-- Byte 0 of a frame is 0x40 and the index (R401). -/
theorem assembleFrame_firstByte (crc : FrameCrc) (idx : BitVec 6) (arg : Word) :
    (assembleFrame crc idx arg).extractLsb' 40 8 = 0x40#8 ||| idx.setWidth 8 := by
  apply BitVec.eq_of_getLsbD_eq
  intro i hi
  rw [BitVec.getLsbD_extractLsb', assembleFrame_bit, BitVec.getLsbD_or, zeroForty_bit, BitVec.getLsbD_setWidth]
  by_cases h : i < 6
  · have h6 : (i == 6) = false := by simp; omega
    simp [hi, h6, show ¬ 40 + i < 8 by omega, show 40 + i < 46 by omega]
  · have hidx : idx.getLsbD i = false := BitVec.getLsbD_of_ge _ _ (by omega)
    have h46 : (40 + i == 46) = (i == 6) := by rw [Bool.eq_iff_iff]; simp; omega
    simp [hi, hidx, h46, show ¬ 40 + i < 8 by omega, show ¬ 40 + i < 46 by omega]

/-- The bytes of the argument stand in the frame 8 bits higher (R301). -/
theorem assembleFrame_argumentByte (crc : FrameCrc) (idx : BitVec 6) (arg : Word) {lo : Nat} (h : lo + 8 ≤ 32) :
    (assembleFrame crc idx arg).extractLsb' (lo + 8) 8 = arg.extractLsb' lo 8 := by
  apply BitVec.eq_of_getLsbD_eq
  intro i hi
  rw [BitVec.getLsbD_extractLsb', assembleFrame_bit, BitVec.getLsbD_extractLsb']
  simp [hi, show ¬ lo + 8 + i < 8 by omega, show lo + 8 + i < 40 by omega, show lo + 8 + i - 8 = lo + i by omega]

end Sys2Proof
end

section
/-! SUPPORT. What stands at each offset of the host port, which accesses are well-formed, and what a read and a write
come to (spec/10_state.md R110, spec/20_memory.md R210 to R215). -/

namespace Sys2Proof.Machine

/-! ### Offsets -/

section Offsets

variable {off : Offset}

theorem placeOf_register (h : off.toNat < 0x28) (h4 : off.toNat % 4 = 0) :
    placeOf off = .reg (regAt (off.toNat / 4)) := by
  simp [placeOf, h, h4]

theorem placeOf_insideRegister (h : off.toNat < 0x28) (h4 : off.toNat % 4 ≠ 0) : placeOf off = .insideReg := by
  simp [placeOf, h, h4]

theorem placeOf_csdByte (h : 0x100 ≤ off.toNat) (h' : off.toNat < 0x110) : placeOf off = .csd := by
  simp [placeOf, csdBase, csdSize, h', show ¬ off.toNat < 0x28 by omega, show ¬ off.toNat < 0x100 by omega]

theorem placeOf_bufByte (h : 0x200 ≤ off.toNat) : placeOf off = .buf := by
  simp [placeOf, csdBase, csdSize, bufBase, show ¬ off.toNat < 0x28 by omega, show ¬ off.toNat < 0x100 by omega,
    show ¬ off.toNat < 0x110 by omega, show ¬ off.toNat < 0x200 by omega]

theorem placeOf_reserved
    (h : (0x028 ≤ off.toNat ∧ off.toNat < 0x100) ∨ (0x110 ≤ off.toNat ∧ off.toNat < 0x200)) :
    placeOf off = .reserved := by
  rcases h with ⟨h, h'⟩ | ⟨h, h'⟩
  · simp [placeOf, csdBase, h', show ¬ off.toNat < 0x28 by omega]
  · simp [placeOf, csdBase, csdSize, bufBase, h', show ¬ off.toNat < 0x28 by omega,
      show ¬ off.toNat < 0x100 by omega, show ¬ off.toNat < 0x110 by omega]

/-- The offset of STATUS (R110). -/
theorem placeOf_status (h : placeOf off = .reg .status) : off = 0x008 := by
  revert off
  decide

/-- A byte access to CSD or BUF is well-formed (R210). -/
theorem wellFormedAccess_bufferByte (h : (0x100 ≤ off.toNat ∧ off.toNat < 0x110) ∨ 0x200 ≤ off.toNat) :
    wellFormedAccess .byte off = true := by
  rcases h with ⟨h, h'⟩ | h
  · simp [wellFormedAccess, placeOf_csdByte h h']
  · simp [wellFormedAccess, placeOf_bufByte h]

/-- A word access to a register's offset is well-formed (R210). -/
theorem wellFormedAccess_register (h : off.toNat < 0x28) (h4 : off.toNat % 4 = 0) :
    wellFormedAccess .word off = true := by
  simp [wellFormedAccess, placeOf_register h h4]

/-- A reserved offset takes any aligned access (R210). -/
theorem wellFormedAccess_reserved {w : Width} (hp : placeOf off = .reserved) (h : w = .byte ∨ off.toNat % 4 = 0) :
    wellFormedAccess w off = true := by
  cases w with
  | byte => simp [wellFormedAccess, hp]
  | word => simpa [wellFormedAccess, hp] using h

/-- R210's ill-formed accesses by offset and width. -/
theorem wellFormedAccess_illFormed {w : Width}
    (h : (off.toNat < 0x028 ∧ (w = .byte ∨ off.toNat % 4 ≠ 0)) ∨
      (0x100 ≤ off.toNat ∧ off.toNat < 0x110 ∧ w = .word) ∨ (0x200 ≤ off.toNat ∧ w = .word) ∨
      (((0x028 ≤ off.toNat ∧ off.toNat < 0x100) ∨ (0x110 ≤ off.toNat ∧ off.toNat < 0x200)) ∧
        w = .word ∧ off.toNat % 4 ≠ 0)) :
    wellFormedAccess w off = false := by
  rcases h with ⟨hn, h⟩ | ⟨hlo, hhi, rfl⟩ | ⟨hn, rfl⟩ | ⟨hn, rfl, h4⟩
  · by_cases h4 : off.toNat % 4 = 0
    · obtain rfl : w = .byte := h.resolve_right (· h4)
      simp [wellFormedAccess, placeOf_register hn h4]
    · simp [wellFormedAccess, placeOf_insideRegister hn h4]
  · simp [wellFormedAccess, placeOf_csdByte hlo hhi]
  · simp [wellFormedAccess, placeOf_bufByte hn]
  · simpa [wellFormedAccess, placeOf_reserved hn] using h4

end Offsets

/-! ### Reads -/

section Reads

variable {w : Width} {off : Offset} {s : State}

/-- A well-formed read with BUSY = 0 tells the host what stands at its offset (R211, R214). -/
theorem portRead_idle (hwf : wellFormedAccess w off = true) (hb : s.busy = false) :
    portRead w off s = { s with replies := s.replies ++ [{ off := off, value := idleRead off s }] } := by
  by_cases hs : placeOf off = .reg .status
  · simp [portRead, afterRead, readValue, hwf, hs, idleRead, regValue]
  · simp [portRead, afterRead, readValue, hwf, hs, hb]

/-- A STATUS read is exact, whatever BUSY is (R211, R215). -/
theorem portRead_status (s : State) :
    portRead .word 0x008 s = { s with replies := s.replies ++ [{ off := 0x008, value := statusWord s }] } := by
  have hwf : wellFormedAccess .word 0x008 = true := rfl
  have hs : placeOf 0x008 = .reg .status := rfl
  simp only [portRead, afterRead, readValue, hwf, hs, if_true]

/-- Every other well-formed read while BUSY = 1 is a draw (R215). -/
theorem portRead_busy (hwf : wellFormedAccess w off = true) (hs : off ≠ 0x008) (hb : s.busy = true) :
    portRead w off s = { s with
      draws := s.draws + 1, replies := s.replies ++ [{ off := off, value := drawValue w off s }] } := by
  have hp : placeOf off ≠ .reg .status := fun hp => hs (placeOf_status hp)
  simp [portRead, afterRead, readValue, hwf, hp, hb]

/-- An ill-formed read is a violation, its value a draw (R213). -/
theorem portRead_illFormed (hwf : wellFormedAccess w off = false) :
    portRead w off s =
      { violation s with replies := s.replies ++ [{ off := off, value := drawValue w off s }] } := by
  simp [portRead, afterRead, readValue, hwf]

theorem idleRead_register (h : off.toNat < 0x28) (h4 : off.toNat % 4 = 0) :
    idleRead off s = regValue (regAt (off.toNat / 4)) s := by
  simp only [idleRead, placeOf_register h h4]

theorem idleRead_reserved
    (h : (0x028 ≤ off.toNat ∧ off.toNat < 0x100) ∨ (0x110 ≤ off.toNat ∧ off.toNat < 0x200)) :
    idleRead off s = 0 := by
  simp only [idleRead, placeOf_reserved h]

/-- A byte of CSD or BUF reads as the value it holds, or as a draw (R135, R211). -/
theorem idleRead_bufferByte (h : (0x100 ≤ off.toNat ∧ off.toNat < 0x110) ∨ 0x200 ≤ off.toNat) :
    idleRead off s = ((s.byteAt off.toNat).getD (Config.freeByte s.draws off.toNat)).setWidth 32 := by
  rcases h with ⟨h, h'⟩ | h
  · simp only [idleRead, placeOf_csdByte h h', State.readByte]
  · simp only [idleRead, placeOf_bufByte h, State.readByte]

end Reads

/-! ### Writes -/

section Writes

variable {w : Width} {off : Offset} {s : State}

theorem portWrite_idle (v : Word) (hwf : wellFormedAccess w off = true) (hb : s.busy = false) :
    portWrite w off v s = idleWrite off v s := by
  simp [portWrite, hwf, hb]

/-- A write that is ill-formed, or comes while BUSY = 1, is a violation (R213, R215, R622). -/
theorem portWrite_violation (v : Word) (h : wellFormedAccess w off = false ∨ s.busy = true) :
    portWrite w off v s = violation s := by
  rcases h with h | h <;> simp [portWrite, h]

/-- Of the registers only ADDR takes a write; REQ's is run by step (R212). -/
theorem idleWrite_readOnlyRegister {r : PortReg} (v : Word) (hp : placeOf off = .reg r) (hr : r ≠ .addr) :
    idleWrite off v s = s := by
  cases r with
  | addr => exact absurd rfl hr
  | req | status | r1 | r7 | ocr | dresp | csize | capKib | opcondAttempts => simp only [idleWrite, hp]

/-- A request word while BUSY = 1 is a violation, whatever it decodes to (R622). -/
theorem runRequest_busy (v : Word) (hb : s.busy = true) : runRequest v s = .next (violation s) := by
  unfold runRequest
  cases hd : decodeRequest v with
  | error e => simp [presentReserved, hb]
  | ok i =>
    obtain ⟨op, hop⟩ := decodeRequest_opcode hd
    simp only [exec_request hop, present, hb, if_true]

end Writes

end Sys2Proof.Machine
end

section
/-! SUPPORT. The step of a host access and of the sequencer, given whose move it is (spec/00_scope.md R8, R9). -/

namespace Sys2Proof.Machine

/-- The state a host access is done in: its move is taken, the host past its line (R325). -/
def pastLine (s : State) : State := { s with turns := s.turns.tail, hpc := s.hpc + 1 }

section HostTurn

variable {s : State} (hm : s.refusalMark = false) (hw : whoMoves s = .host)

include hm hw

theorem step_of_read {w : Width} {off : Offset} (hl : s.program[s.hpc]? = some (.rd w off)) :
    step s = .next (portRead w off (pastLine s)) := by
  have hmove : hostMove (takeTurn s) = .done (portRead w off (pastLine s)) := by
    simp only [hostMove, takeTurn_program, takeTurn_hpc, hl]
    rfl
  simp only [step_unmarked hm, advance, hw, hostTurn, hmove]

theorem step_of_write {w : Width} {off : Offset} {v : Word} (hl : s.program[s.hpc]? = some (.wr w off v))
    (hreq : ¬ (w = .word ∧ off = 0x000)) :
    step s = .next (portWrite w off v (pastLine s)) := by
  have hmove : hostMove (takeTurn s) = .done (portWrite w off v (pastLine s)) := by
    simp only [hostMove, takeTurn_program, takeTurn_hpc, hl, if_neg hreq]
    rfl
  simp only [step_unmarked hm, advance, hw, hostTurn, hmove]

theorem step_of_request {v : Word} (hl : s.program[s.hpc]? = some (.wr .word 0x000 v)) :
    step s = runRequest v (pastLine s) := by
  have hmove : hostMove (takeTurn s) = .request v (pastLine s) := by
    simp only [hostMove, takeTurn_program, takeTurn_hpc, hl]
    rfl
  simp only [step_unmarked hm, advance, hw, hostTurn, hmove]

/-- A write that is ill-formed, or comes while BUSY = 1, is a violation whatever its offset, REQ's included (R213, R215,
R622). -/
theorem step_of_violatingWrite {w : Width} {off : Offset} {v : Word}
    (hl : s.program[s.hpc]? = some (.wr w off v)) (h : wellFormedAccess w off = false ∨ s.busy = true) :
    step s = .next (violation (pastLine s)) := by
  by_cases hreq : w = .word ∧ off = 0x000
  · obtain ⟨rfl, rfl⟩ := hreq
    have hb : s.busy = true := h.resolve_left (by decide)
    rw [step_of_request hm hw hl, runRequest_busy (s := pastLine s) v hb]
  · rw [step_of_write hm hw hl hreq, portWrite_violation (s := pastLine s) v h]

end HostTurn

/-- On the controller's turn with no frame ready, the sequencer takes its step. -/
theorem advance_of_seqStep {s : State} (hw : whoMoves s = .controller) (hissue : ∀ f, s.phase ≠ .issue f) :
    advance s = .next (seqStep (takeTurn s)) := by
  have hmove : controllerMove (takeTurn s) = .done (seqStep (takeTurn s)) := by
    unfold controllerMove
    split
    · next f hp => exact absurd hp (hissue f)
    · rfl
  simp only [advance, hw, controllerTurn, hmove]

/-- The move at a data phase's byte is its exchange (R447). -/
theorem advance_of_readData {s : State} {c : Cmd} {i : Nat} (hw : whoMoves s = .controller)
    (hp : s.phase = .readData c i) :
    advance s = .next (spiXfer dummyByte (gotData c i) (takeTurn s)) := by
  rw [advance_of_seqStep hw (by simp [hp])]
  simp only [seqStep, takeTurn_phase, hp]

end Sys2Proof.Machine
end

section
/-! SUPPORT. Which moves write the buffers' bytes (spec/20_memory.md R201, R202, R447, spec/60_exceptions.md R613). -/

namespace Sys2Proof.Machine

/-! ### The data phase -/

/-- The phase after byte `i` of a data phase: the next byte, the trailer, or the deselect (R447, R503). -/
def phaseAfterData (p : Params) (c : Cmd) (i : Nat) : Phase :=
  if i + 1 < dataSize c then .readData c (i + 1)
  else if p.nReadTrailer = 0 then .deselect c none else .trailer c 1

/-- A received data byte is stored whatever its value, and only the position moves on (R447). -/
theorem gotData_eq (c : Cmd) (i : Nat) (b : Byte) (s : State) :
    gotData c i b s = { s.writeByte (dataBase c + i) b with phase := phaseAfterData s.cfg c i } := by
  unfold gotData phaseAfterData
  dsimp only
  split
  · rfl
  · rcases enterLoop_cases s.cfg.nReadTrailer (.trailer c 1) (startEnd c none)
      (s.writeByte (dataBase c + i) b) with ⟨hn, e⟩ | ⟨hn, e⟩
    · rw [if_neg (Nat.ne_of_gt hn)]
      exact e
    · rw [if_pos hn]
      exact e

theorem phaseAfterData_next {p : Params} {c : Cmd} {i : Nat} (h : i + 1 < dataSize c) :
    phaseAfterData p c i = .readData c (i + 1) := if_pos h

theorem phaseAfterData_last {p : Params} {c : Cmd} {i : Nat} (h : i + 1 = dataSize c) :
    phaseAfterData p c i = if p.nReadTrailer = 0 then .deselect c none else .trailer c 1 :=
  if_neg (by omega)

/-! ### The end of a failed request -/

/-- Every byte is kept or loses its value. -/
def KeepsOrForgets (s t : State) : Prop := ∀ a, t.byteAt a = s.byteAt a ∨ t.byteAt a = none

/-- R613: the bytes of the failed request's buffer lose their values, every other is kept. -/
theorem forgetFilled_keepsOrForgets (s : State) : KeepsOrForgets s (forgetFilled s) := by
  have region (m : Memory) (base n a : Nat) :
      (m.forget base n).read a = m.read a ∨ (m.forget base n).read a = none := by
    by_cases h : base ≤ a ∧ a < base + n
    · exact .inr (memory_read_forget_inside m h.1 h.2)
    · exact .inl (memory_read_forget_outside m (by omega))
  intro a
  simp only [State.byteAt, forgetFilled_mem]
  split
  · exact region _ _ _ a
  · split
    · exact region _ _ _ a
    · exact .inl rfl

/-- Raising an error writes no byte, but that an exit complete at once ends the failed request (R612, R613). -/
theorem raise_bytes (e : Error) (s : State) :
    (raise e s).mem = s.mem ∨ ((raise e s).busy = false ∧ KeepsOrForgets s (raise e s)) := by
  cases h : s.csN with
  | true =>
    rw [raise_deselected h]
    refine .inr ⟨by simp, fun a => ?_⟩
    simpa [State.byteAt] using forgetFilled_keepsOrForgets (recordError e s) a
  | false => exact .inl (by rw [raise_selected h]; rfl)

/-! ### The controller's lines -/

/-- The lines after a bus event outside a data phase: a byte changes where a failed request ends, and there only. -/
theorem follows_bytes {s t : State} (h : Follows s t) (hp : ∀ c i, s.phase ≠ .readData c i) :
    t.mem = s.mem ∨ (t.busy = false ∧ (t.err ≠ .none ∨ (s.phase = .errorExit ∧ t.err = s.err)) ∧
      KeepsOrForgets s t) := by
  have raised (e : Error) {u : State} (hu : u.mem = s.mem) : (raise e u).mem = s.mem ∨
      ((raise e u).busy = false ∧ ((raise e u).err ≠ .none ∨ (s.phase = .errorExit ∧ (raise e u).err = s.err)) ∧
        KeepsOrForgets s (raise e u)) := by
    rcases raise_bytes e u with hm | ⟨hb, hk⟩
    · exact .inl (hm.trans hu)
    · refine .inr ⟨hb, .inl (raise_writes e u).1, fun a => ?_⟩
      rw [State.byteAt, State.byteAt, ← hu]
      exact hk a
  cases h with
  | raises e => exact raised e rfl
  | rejected k d => exact raised _ rfl
  | stored c i v p hd => exact absurd hd (hp c i)
  | leaves he =>
    refine .inr ⟨by simp, .inr ⟨he, leaveError_err s⟩, fun a => ?_⟩
    simpa [State.byteAt] using forgetFilled_keepsOrForgets s a
  | ended c r t _ ends =>
    cases ends with
    | fails e v => exact raised e rfl
    | _ => exact .inl rfl
  | _ => exact .inl rfl

/-! ### The moves -/

/-- The host's move that changes a byte is its 8-bit write to that byte of BUF with BUSY = 0, which clears BUF_VALID
(R212). -/
theorem advance_host_bytes {s t : State} {a : Nat} (h : advance s = .next t) (hw : whoMoves s = .host)
    (hne : t.byteAt a ≠ s.byteAt a) :
    s.busy = false ∧ 0x200 ≤ a ∧ t.bufValid = false ∧
      ∃ off v, off.toNat = a ∧ s.program[s.hpc]? = some (.wr .byte off v) := by
  rcases advance_host h hw with hd | ⟨v, -, hp⟩
  · cases hd with
    | wroteBuf off v hl hb hbuf =>
      by_cases ha : a = off.toNat
      · subst ha
        exact ⟨hb, hbuf, rfl, off, v, rfl, hl⟩
      · exact absurd (memory_read_write_other s.mem _ ha) hne
    | _ => exact absurd rfl hne
  · cases hp with
    | accepted i op => rw [requestStart_eq] at hne; exact absurd rfl hne
    | _ => exact absurd rfl hne

/-- In a data phase the byte of the exchange is stored, or the failed exchange ends the request (R447, R604, R613). -/
theorem readData_bytes {s : State} {c : Cmd} {i a : Nat}
    (hne : (spiXfer dummyByte (gotData c i) s).byteAt a ≠ s.byteAt a) :
    (∃ b, cardReply s = some b ∧ a = dataBase c + i ∧ (spiXfer dummyByte (gotData c i) s).byteAt a = some b) ∨
    ((spiXfer dummyByte (gotData c i) s).busy = false ∧ (spiXfer dummyByte (gotData c i) s).err ≠ .none ∧
      (spiXfer dummyByte (gotData c i) s).byteAt a = none) := by
  rcases spiXfer_cases dummyByte (gotData c i) s with ⟨b, hr, e⟩ | ⟨-, e⟩ <;> rw [e] at hne ⊢
  · rw [gotData_eq] at hne ⊢
    by_cases ha : a = dataBase c + i
    · subst ha
      exact .inl ⟨b, hr, rfl, memory_read_write_same _ _ _⟩
    · exact absurd (memory_read_write_other s.mem b ha) hne
  · rcases raise_bytes .busError (exchange dummyByte s) with hm | ⟨hb, hk⟩
    · exact absurd (congrArg (Memory.read · a) hm) hne
    · exact .inr ⟨hb, (raise_writes _ _).1, (hk a).resolve_left hne⟩

/-- The controller's moves that change a byte: the data phase's exchange of that byte, and the end of a failed request
(R447, R613). -/
theorem advance_controller_bytes {s t : State} {a : Nat} (hi : Inv s) (h : advance s = .next t)
    (hw : whoMoves s = .controller) (hne : t.byteAt a ≠ s.byteAt a) :
    (∃ c i b, s.phase = .readData c i ∧ a = dataBase c + i ∧ cardReply s = some b ∧ t.byteAt a = some b) ∨
    (t.busy = false ∧ t.err ≠ .none ∧ t.byteAt a = none) := by
  by_cases hd : ∃ c i, s.phase = .readData c i
  · obtain ⟨c, i, hp⟩ := hd
    obtain rfl : spiXfer dummyByte (gotData c i) (takeTurn s) = t :=
      Host.Outcome.next.inj ((advance_of_readData hw hp).symm.trans h)
    rcases readData_bytes (s := takeTurn s) hne with ⟨b, hr, ha, hv⟩ | hfailed
    · exact .inl ⟨c, i, b, hp, ha, hr, hv⟩
    · exact .inr hfailed
  · by_cases hidle : s.phase = .idle
    · rw [advance_controller_idle h hw hidle] at hne
      exact absurd rfl hne
    · obtain ⟨l, r, tr, ca, d, hf⟩ := advance_follows h hw hidle
      rcases follows_bytes hf (fun c i hp => hd ⟨c, i, hp⟩) with hm | ⟨hb, herr, hk⟩
      · exact absurd (congrArg (Memory.read · a) hm) hne
      · refine .inr ⟨hb, ?_, (hk a).resolve_left hne⟩
        rcases herr with herr | ⟨hp, he⟩
        · exact herr
        · have pos := hi.position
          simp only [positionOk, show s.phase = .errorExit from hp] at pos
          exact fun hnone => pos.2 (he.symm.trans hnone)

end Sys2Proof.Machine
end

section
/-! The statements of the memory file (spec/20_memory.md). -/

namespace Sys2Proof.Proofs

open Sys2Proof Sys2Proof.Machine

/-- Settles O4: the six bytes of an assembled frame, one lemma a part. -/
theorem frameArgumentIsBigEndian : Obligations.FrameArgumentIsBigEndian := by
  unfold Obligations.FrameArgumentIsBigEndian
  intro crc idx arg
  have argument {lo : Nat} (h : lo + 8 ≤ 32) := assembleFrame_argumentByte crc idx arg h
  simp only [frameBytes, frameByte, List.cons.injEq, and_true]
  exact ⟨assembleFrame_firstByte crc idx arg, argument (by decide), argument (by decide), argument (by decide),
    argument (by decide), assembleFrame_crc crc idx arg⟩

/-- Settles O32: the step is the exchange of the byte, which `gotData_eq` stores. -/
theorem dataByteIsStoredInItsStep : Obligations.DataByteIsStoredInItsStep := by
  unfold Obligations.DataByteIsStoredInItsStep
  intro s c i b hm hw hp hr hc
  have hstep : step s = .next (gotData c i b (exchange dummyByte (takeTurn s))) := by
    rw [step_unmarked hm, advance_of_readData hw hp, spiXfer_answer (s := takeTurn s) hr]
  have hevent : exchange dummyByte (takeTurn s) = { s with
      turns := s.turns.tail, card := s.card.tail, draws := s.draws + 1
      trace := s.trace ++ [.xfer 0xFF (some b)] } := by
    rw [← hr]
    rfl
  rw [gotData_eq, hevent] at hstep
  have stored := memory_read_write_same s.mem (dataBase c + i) b
  have others (x : Nat) (hx : x ≠ dataBase c + i) := memory_read_write_other s.mem b hx
  refine ⟨s.mem.write (dataBase c + i) b, phaseAfterData s.cfg c i, hstep, ?_⟩
  rcases hc with ⟨rfl, -⟩ | ⟨rfl, -⟩ <;>
    exact ⟨stored, others, fun h => phaseAfterData_next (Nat.succ_lt_succ h), fun h => phaseAfterData_last (h ▸ rfl)⟩

/-- Settles O40: a well-formed idle read answers what `idleRead` finds at its offset. -/
theorem idleReadsReturnTheRegisters : Obligations.IdleReadsReturnTheRegisters := by
  unfold Obligations.IdleReadsReturnTheRegisters
  intro s w off hm hw hl hb n answers
  have idle (hwf : wellFormedAccess w off = true) : answers (idleRead off (pastLine s)) := by
    show step s = _
    rw [step_of_read hm hw hl, portRead_idle (s := pastLine s) hwf hb]
    rfl
  have register {k : Nat} (h : k < 0x28) (h4 : k % 4 = 0) (hword : w = .word) (hn : n = k) :
      answers (regValue (regAt (k / 4)) (pastLine s)) := by
    subst hword hn
    rw [← idleRead_register h h4]
    exact idle (wellFormedAccess_register h h4)
  have byte (hbyte : w = .byte) (h : (0x100 ≤ n ∧ n < 0x110) ∨ 0x200 ≤ n) :
      answers (((s.byteAt n).getD (Config.freeByte s.draws n)).setWidth 32) := by
    subst hbyte
    have hread := idle (wellFormedAccess_bufferByte h)
    rwa [idleRead_bufferByte h] at hread
  refine ⟨register (by decide) rfl, register (by decide) rfl, register (by decide) rfl, register (by decide) rfl,
    register (by decide) rfl, register (by decide) rfl, register (by decide) rfl, register (by decide) rfl,
    register (by decide) rfl, register (by decide) rfl, fun h hwidth => ?_, fun b hbyte h hv => ?_,
    fun hbyte h _ => ⟨_, byte hbyte h⟩⟩
  · have hread := idle (wellFormedAccess_reserved (placeOf_reserved h) hwidth)
    rwa [idleRead_reserved h] at hread
  · have hread := byte hbyte h
    rwa [hv] at hread

/-- Settles O42: an ill-formed access is `violation`, as a write and as a read. -/
theorem illFormedAccessOnlyMarks : Obligations.IllFormedAccessOnlyMarks := by
  unfold Obligations.IllFormedAccessOnlyMarks
  rintro s w off n hm hw rfl h
  have hwf : wellFormedAccess w off = false := wellFormedAccess_illFormed h
  refine ⟨fun v hl => step_of_violatingWrite hm hw hl (.inl hwf), fun hl => ⟨drawValue w off (pastLine s), ?_⟩⟩
  rw [step_of_read hm hw hl, portRead_illFormed hwf]
  rfl

/-- Settles O43: a REQ write runs its request, and every other well-formed idle write is `idleWrite`. -/
theorem idleWritesTakeEffect : Obligations.IdleWritesTakeEffect := by
  unfold Obligations.IdleWritesTakeEffect
  intro s w off v hm hw hl hb n moved
  have idle (hwf : wellFormedAccess w off = true) (hreq : w = .word → n ≠ 0) :
      step s = .next (idleWrite off v moved) := by
    have hreq' : ¬ (w = .word ∧ off = 0x000) := fun ⟨hword, hoff⟩ => hreq hword (by simp [n, hoff])
    rw [step_of_write hm hw hl hreq', portWrite_idle (s := pastLine s) v hwf hb]
    rfl
  refine ⟨?_, ?_, ?_, ?_, ?_, ?_⟩
  · rintro rfl hn
    obtain rfl : off = 0x000 := BitVec.eq_of_toNat_eq hn
    exact step_of_request hm hw hl
  · rintro rfl hn
    obtain rfl : off = 0x004 := BitVec.eq_of_toNat_eq hn
    exact idle rfl nofun
  · rintro rfl hn
    refine ⟨s.mem.write n (v.setWidth 8), ?_, ?_, fun a ha => memory_read_write_other _ _ ha⟩
    · rw [idle (wellFormedAccess_bufferByte (.inr hn)) nofun]
      simp only [idleWrite, placeOf_bufByte hn]
      rfl
    · rw [memory_read_write_same, BitVec.setWidth_eq_extractLsb' (by decide)]
  · rintro rfl hn h4 h0 haddr
    have hreg : regAt (n / 4) ≠ .addr := fun hr =>
      haddr (congrArg BitVec.toNat (placeOf_addr ((placeOf_register hn h4).trans (congrArg _ hr))))
    rw [idle (wellFormedAccess_register hn h4) (fun _ => h0),
      idleWrite_readOnlyRegister v (placeOf_register hn h4) hreg]
  · rintro rfl hlo hhi
    rw [idle (wellFormedAccess_bufferByte (.inl ⟨hlo, hhi⟩)) nofun]
    simp only [idleWrite, placeOf_csdByte hlo hhi]
  · intro h hwidth
    have hp : placeOf off = .reserved := placeOf_reserved h
    rw [idle (wellFormedAccess_reserved hp hwidth) (fun _ => by omega)]
    simp only [idleWrite, hp]

/-- Settles O51: reset apart, the host's BUF write, the data phase's exchange and the end of a failed request write
bytes, and nothing else does. -/
theorem bufferBytesHaveTheirWriters : Obligations.BufferBytesHaveTheirWriters := by
  unfold Obligations.BufferBytesHaveTheirWriters
  intro s t a hi h hne
  have ha : advance s = .next t := (advance_of_step h).2
  cases hw : whoMoves s with
  | platformReset => exact .inl rfl
  | host => exact .inr (.inl ⟨rfl, advance_host_bytes ha hw hne⟩)
  | controller =>
    rcases advance_controller_bytes hi ha hw hne with hdata | hfailed
    · exact .inr (.inr (.inl ⟨rfl, hdata⟩))
    · exact .inr (.inr (.inr ⟨rfl, hfailed⟩))

/-- Settles O41: the STATUS read is exact, every other well-formed read a draw. -/
theorem busyReadsChangeNothing : Obligations.BusyReadsChangeNothing := by
  unfold Obligations.BusyReadsChangeNothing
  intro s hm hw hb
  refine ⟨fun hl => ?_, fun w off hl hwf hs => ⟨drawValue w off (pastLine s), ?_⟩⟩
  · rw [step_of_read hm hw hl, portRead_status]
    rfl
  · rw [step_of_read hm hw hl, portRead_busy (s := pastLine s) hwf hs hb]
    rfl

/-- Settles O44: any write while BUSY = 1 is `violation`, REQ's included. -/
theorem busyWritesOnlyMark : Obligations.BusyWritesOnlyMark := by
  unfold Obligations.BusyWritesOnlyMark
  exact fun s w off v hm hw hl hb => step_of_violatingWrite hm hw hl (.inr hb)

end Sys2Proof.Proofs
end

section
/-! SUPPORT. What an encoding is, said once for the requests and once for the frames, and what a frame that decodes
holds (spec/30_encoding.md R301, R305, R321, R324). -/

namespace Sys2Proof

open Sys2Proof.Machine

/-! ### Requests -/

/-- A request is encoded as its opcode byte alone (R321). -/
theorem encode_request {i : Instr} {op : Byte} (crc : FrameCrc) (h : i.opcode = some op) : encode crc i = [op] := by
  rcases request_cases h with ⟨rfl, rfl⟩ | ⟨rfl, rfl⟩ | ⟨rfl, rfl⟩ | ⟨rfl, rfl⟩ | ⟨rfl, rfl⟩ <;> rfl

/-- An opcode byte decodes to the request it belongs to, and to no other instruction (R321, R323). -/
theorem decodeOpcode_iff {op : Byte} {i : Instr} : decodeOpcode op = .ok i ↔ i.opcode = some op := by
  constructor
  · intro h
    rcases decodeOpcode_ok h with ⟨rfl, rfl⟩ | ⟨rfl, rfl⟩ | ⟨rfl, rfl⟩ | ⟨rfl, rfl⟩ | ⟨rfl, rfl⟩ <;> rfl
  · intro h
    rcases request_cases h with ⟨rfl, rfl⟩ | ⟨rfl, rfl⟩ | ⟨rfl, rfl⟩ | ⟨rfl, rfl⟩ | ⟨rfl, rfl⟩ <;> rfl

/-! ### Frames -/

/-- A command is encoded as the six bytes of its assembled frame (R403 to R410). -/
theorem encode_frame (crc : FrameCrc) (c : Cmd) (a : Word) :
    encode crc (c.instr a) = frameBytes (assembleFrame crc c.index (c.argument a)) := by
  cases c <;> rfl

/-- The decoder reads the six bytes of a frame as that frame (R324). -/
theorem decode_frameBytes (f : FrameWord) : decode (frameBytes f) = decodeFrame f :=
  congrArg decodeFrame (frameOfBytes_frameByte f)

theorem fixedArgument_ok {want arg : Word} {i j : Instr} (h : fixedArgument want arg i = .ok j) :
    j = i ∧ arg = want := by
  unfold fixedArgument at h
  split at h
  · next ha => exact ⟨(Except.ok.inj h).symm, ha⟩
  · exact nomatch h

/-- The argument field of a frame that decodes is the argument of its command (R305). -/
theorem decodeFrame_command {f : FrameWord} {i : Instr} (h : decodeFrame f = .ok i) :
    ∃ (c : Cmd) (a : Word), i = c.instr a ∧ f.extractLsb' 8 32 = c.argument a := by
  unfold decodeFrame at h
  dsimp only at h
  repeat' split at h
  · exact nomatch h
  · exact ⟨.cmd0, 0, fixedArgument_ok h⟩
  · exact ⟨.cmd8, 0, fixedArgument_ok h⟩
  · exact ⟨.cmd55, 0, fixedArgument_ok h⟩
  · exact ⟨.acmd41, 0, fixedArgument_ok h⟩
  · exact ⟨.cmd17, _, (Except.ok.inj h).symm, rfl⟩
  · exact ⟨.cmd24, _, (Except.ok.inj h).symm, rfl⟩
  · exact ⟨.cmd58, 0, fixedArgument_ok h⟩
  · exact ⟨.cmd9, 0, fixedArgument_ok h⟩
  · exact nomatch h

/-- Byte `j` of a frame, for `j` from 1 to 4, is a byte of its argument (R301). -/
theorem frameByte_argument (f : FrameWord) {j : Nat} (h : 1 ≤ j) (h' : j ≤ 4) :
    frameByte f j = (f.extractLsb' 8 32).extractLsb' (32 - 8 * j) 8 := by
  apply BitVec.eq_of_getLsbD_eq
  intro i hi
  simp [frameByte, hi, show 32 - 8 * j + i < 32 by omega, show 8 + (32 - 8 * j + i) = 40 - 8 * j + i by omega]

/-- A frame that decodes is its instruction's own encoding in bytes 0 to 4 (R302, R305). -/
theorem decodeFrame_bytes {f : FrameWord} {i : Instr} (crc : FrameCrc) (h : decodeFrame f = .ok i) :
    ∃ g, encode crc i = frameBytes g ∧ ∀ j, j ≤ 4 → frameByte g j = frameByte f j := by
  obtain ⟨c, a, rfl, ha⟩ := decodeFrame_command h
  refine ⟨_, encode_frame crc c a, fun j hj => ?_⟩
  rcases Nat.eq_zero_or_pos j with rfl | h1
  · exact decodeFrame_firstByte crc h
  · rw [frameByte_argument _ h1 hj, frameByte_argument f h1 hj, assembleFrame_argument, ha]

/-! ### The table's numbering (R326) -/

theorem except_toOption_eq_some {ε α : Type} {x : Except ε α} {a : α} (h : x.toOption = some a) : x = .ok a := by
  cases x with
  | ok b => exact congrArg Except.ok (Option.some.inj h)
  | error e => exact nomatch h

theorem decodeTableWord_request {nbits w : Nat} {i : Instr} (hn : nbits ≤ 32) (h : decodeTableWord nbits w = some i) :
    decodeRequest (BitVec.ofNat 32 w) = .ok i := by
  rw [decodeTableWord, if_pos hn] at h
  exact except_toOption_eq_some h

theorem decodeTableWord_frame {w : Nat} {i : Instr} (h : decodeTableWord 48 w = some i) :
    decodeFrame (BitVec.ofNat 48 w) = .ok i :=
  except_toOption_eq_some h

end Sys2Proof
end

section
/-! SUPPORT. Where an assembled line's branches go (spec/30_encoding.md R325). -/

namespace Sys2Proof.Machine

/-- A label that stands nowhere is the end of the program (log 15). -/
theorem labelPosition_missing {l : Nat} {p : List SourceLine} (h : .label l ∉ p) (k : Nat) :
    labelPosition l k p = k + (p.flatMap (expandLine id)).length := by
  rw [← List.append_nil p, labelPosition_append l p [] k h, labelPosition, List.append_nil]

/-- The first line with a label gives the label its position (R325; log 15). -/
theorem labelPosition_first {l : Nat} {pre : List SourceLine} (h : .label l ∉ pre) (post : List SourceLine)
    (k : Nat) :
    labelPosition l k (pre ++ [.label l] ++ post) = k + (pre.flatMap (expandLine id)).length := by
  rw [List.append_assoc, labelPosition_append l pre _ k h, List.singleton_append, labelPosition, if_pos rfl]

/-- A line's branches go where its label resolves to. -/
theorem expandLine_wf {target : Nat → Nat} {n : Nat} (h : ∀ l, target l ≤ n) (x : SourceLine) :
    ∀ y ∈ expandLine target x, y.wf n = true := by
  cases x with
  | berr l | branch l => simpa [expandLine, HostLine.wf] using h l
  | _ => simp [expandLine, HostLine.wf]

/-- FILL writes all of BUF in address order (R325). -/
theorem expandLine_fill (target : Nat → Nat) (v : Byte) {j : Nat} (h : j < bufSize) :
    (expandLine target (.fill v))[j]? = some (.wr .byte (BitVec.ofNat 10 (bufBase + j)) (v.setWidth 32)) := by
  simp only [expandLine, List.getElem?_map, List.getElem?_range h, Option.map_some]

end Sys2Proof.Machine
end

section
/-! SUPPORT. The step at an assembled frame, and the host's step of any line but a REQ write (spec/00_scope.md R8,
R9). -/

namespace Sys2Proof.Machine

/-- The step at an assembled frame runs it, the move taken (R401). -/
theorem step_of_issue {s : State} {f : FrameWord} (hm : s.refusalMark = false) (hw : whoMoves s = .controller)
    (hp : s.phase = .issue f) : step s = runFrame f (takeTurn s) := by
  have hmove : controllerMove (takeTurn s) = .frame f (takeTurn s) := by
    simp only [controllerMove, takeTurn_phase, hp]
  simp only [step_unmarked hm, advance, hw, controllerTurn, hmove]

/-- A move of the host that presents no request is its step. -/
theorem step_of_hostMove {s t : State} (hm : s.refusalMark = false) (hw : whoMoves s = .host)
    (hmove : hostMove (takeTurn s) = .done t) : step s = .next t := by
  simp only [step_unmarked hm, advance, hw, hostTurn, hmove]

/-- A STATUS read of the host tells it STATUS and sends it where the value says (R325). -/
theorem readStatusThen_eq (target : Word → Nat) (s : State) :
    readStatusThen target s = { s with
      replies := s.replies ++ [{ off := 0x008, value := statusWord s }], hpc := target (statusWord s) } := by
  rw [readStatusThen, portRead_status]

/-- STATUS does not depend on whose move is next. -/
theorem statusWord_takeTurn (s : State) : statusWord (takeTurn s) = statusWord s := rfl

/-- ERR reads 0 exactly when no error is recorded (R601). -/
theorem errCode_eq_zero_iff (e : ErrCode) : e.code = 0#4 ↔ e = .none := by
  cases e <;> decide

end Sys2Proof.Machine
end

section
/-! SUPPORT. Where SEND_OP_COND's transaction starts (spec/30_encoding.md R306, spec/43_initialization.md R474, R475):
the last step of an APP_CMD_PREFIX transaction, and no other step of the sequencer. -/

namespace Sys2Proof.Machine

/-- SEND_OP_COND's transaction starts in `t` only if the step from `s` is the last of an APP_CMD_PREFIX transaction and
`t` is what its end makes of the state right after the bus event. -/
def OpCondAfter (s t : State) : Prop :=
  t.phase = .select .acmd41 →
    ∃ r u, (s.phase = .deselect .cmd55 r ∨ ∃ k, s.phase = .postDummy .cmd55 r k) ∧ u.attempts = s.attempts ∧
      t = endTxn .cmd55 r u

theorem opCondAfter_of_phase_ne {s t : State} (h : t.phase ≠ .select .acmd41) : OpCondAfter s t :=
  fun ht => absurd ht h

section Operations

variable {s u : State}

theorem raise_opCondAfter (e : Error) : OpCondAfter s (raise e u) := by
  apply opCondAfter_of_phase_ne
  cases h : u.csN <;> simp [raise, h]

theorem spiXfer_opCondAfter {o : Byte} {use : Byte → State → State}
    (hu : ∀ b, OpCondAfter s (use b (exchange o u))) : OpCondAfter s (spiXfer o use u) := by
  rcases spiXfer_cases o use u with ⟨b, -, e⟩ | ⟨-, e⟩ <;> rw [e]
  · exact hu b
  · exact raise_opCondAfter _

theorem sendByte_opCondAfter {o : Byte} {next : State → State} (hn : OpCondAfter s (next (exchange o u))) :
    OpCondAfter s (sendByte o next u) := spiXfer_opCondAfter fun _ => hn

theorem poll_opCondAfter {hit : Byte → Bool} {limit : Nat} {site : ErrSite} {k : Nat} {again : Nat → Phase}
    {found : Byte → State → State} (ha : ∀ j, again j ≠ .select .acmd41)
    (hf : ∀ b, OpCondAfter s (found b (exchange dummyByte u))) :
    OpCondAfter s (poll hit limit site k again found u) := by
  rcases poll_cases hit limit site k again found u with
    ⟨b, -, -, e⟩ | ⟨b, -, -, -, e⟩ | ⟨b, -, -, -, e⟩ | ⟨-, e⟩ <;> rw [e]
  · exact hf b
  · exact opCondAfter_of_phase_ne (ha _)
  · exact raise_opCondAfter _
  · exact raise_opCondAfter _

theorem enterLoop_opCondAfter {n : Nat} {first : Phase} {done : State → State} (hf : first ≠ .select .acmd41)
    (hd : OpCondAfter s (done u)) : OpCondAfter s (enterLoop n first done u) := by
  rcases enterLoop_cases n first done u with ⟨-, e⟩ | ⟨-, e⟩ <;> rw [e]
  · exact opCondAfter_of_phase_ne hf
  · exact hd

theorem nextIteration_opCondAfter {k n : Nat} {again : Nat → Phase} {done : State → State}
    (ha : ∀ j, again j ≠ .select .acmd41) (hd : OpCondAfter s (done u)) :
    OpCondAfter s (nextIteration k n again done u) := by
  rcases nextIteration_cases k n again done u with ⟨-, e⟩ | ⟨-, e⟩ <;> rw [e]
  · exact opCondAfter_of_phase_ne (ha _)
  · exact hd

/-- Of the transactions' ends only APP_CMD_PREFIX's leads to SEND_OP_COND (R471). -/
theorem endTxn_opCondAfter {c : Cmd} {r : Option Byte}
    (hp : s.phase = .deselect c r ∨ ∃ k, s.phase = .postDummy c r k) (ha : u.attempts = s.attempts) :
    OpCondAfter s (endTxn c r u) := by
  cases c with
  | cmd55 => exact fun _ => ⟨r, u, hp, ha, rfl⟩
  | cmd0 =>
    simp only [endTxn, afterReset]
    split
    · exact raise_opCondAfter _
    · exact opCondAfter_of_phase_ne nofun
  | cmd8 =>
    simp only [endTxn, afterVoltageCheck]
    split
    · exact raise_opCondAfter _
    · exact opCondAfter_of_phase_ne nofun
  | acmd41 =>
    simp only [endTxn, afterOpCond]
    split
    · split
      · exact raise_opCondAfter _
      · exact opCondAfter_of_phase_ne nofun
    · exact opCondAfter_of_phase_ne nofun
  | cmd58 =>
    simp only [endTxn, afterReadOcr]
    split
    · exact raise_opCondAfter _
    · split <;> exact opCondAfter_of_phase_ne nofun
  | cmd17 | cmd24 => exact opCondAfter_of_phase_ne nofun
  | cmd9 =>
    simp only [endTxn, afterCsd]
    split <;> exact opCondAfter_of_phase_ne nofun

end Operations

theorem seqStep_opCondAfter (s : State) : OpCondAfter s (seqStep s) := by
  unfold seqStep
  cases hp : s.phase with
  | idle | issue f => exact opCondAfter_of_phase_ne (by simp [hp])
  | clkSlow | clkFast | errorExit => exact opCondAfter_of_phase_ne nofun
  | preambleCs | select c => exact enterLoop_opCondAfter nofun (opCondAfter_of_phase_ne nofun)
  | powerDummy k | preDummy c k | trailer c k =>
    exact sendByte_opCondAfter (nextIteration_opCondAfter nofun (opCondAfter_of_phase_ne nofun))
  | frame c f j =>
    refine sendByte_opCondAfter (opCondAfter_of_phase_ne ?_)
    split
    · exact nofun
    · cases c <;> exact nofun
  | pollR1 c k => exact poll_opCondAfter nofun fun b => opCondAfter_of_phase_ne (by cases c <;> exact nofun)
  | readFour c j v =>
    refine spiXfer_opCondAfter fun b => opCondAfter_of_phase_ne ?_
    split
    · exact nofun
    · cases c <;> exact nofun
  | pollToken c k => exact poll_opCondAfter nofun fun _ => opCondAfter_of_phase_ne nofun
  | readData c i =>
    refine spiXfer_opCondAfter fun b => ?_
    simp only [gotData]
    split
    · exact opCondAfter_of_phase_ne nofun
    · exact enterLoop_opCondAfter nofun (opCondAfter_of_phase_ne nofun)
  | sendToken | sendCrc0 | sendCrc1 => exact sendByte_opCondAfter (opCondAfter_of_phase_ne nofun)
  | sendData i => exact sendByte_opCondAfter (opCondAfter_of_phase_ne (by split <;> exact nofun))
  | pollDresp k =>
    refine poll_opCondAfter nofun fun d => ?_
    simp only [gotDataResponse]
    split
    · split <;> exact opCondAfter_of_phase_ne nofun
    · exact raise_opCondAfter _
  | pollBusy k => exact poll_opCondAfter nofun fun _ => opCondAfter_of_phase_ne nofun
  | deselect c r => exact enterLoop_opCondAfter nofun (endTxn_opCondAfter (.inl hp) rfl)
  | postDummy c r k =>
    exact sendByte_opCondAfter (nextIteration_opCondAfter nofun (endTxn_opCondAfter (.inr ⟨k, hp⟩) rfl))

/-- A move of the controller that leads to SEND_OP_COND's transaction is the last of an APP_CMD_PREFIX transaction. -/
theorem advance_controller_opCondAfter {s t : State} (h : advance s = .next t) (hw : whoMoves s = .controller) :
    OpCondAfter (takeTurn s) t := by
  rcases advance_cases h with ⟨hw', -⟩ | ⟨hw', -⟩ | ⟨-, ⟨f, c, a, -, -, rfl⟩ | ⟨-, rfl⟩⟩
  · exact nomatch hw.symm.trans hw'
  · exact nomatch hw.symm.trans hw'
  · exact sendByte_opCondAfter (opCondAfter_of_phase_ne nofun)
  · exact seqStep_opCondAfter (takeTurn s)

/-- The end of an APP_CMD_PREFIX transaction: R1, STATE and the count, and SEND_OP_COND's transaction next (R471,
R475). -/
theorem endTxn_cmd55 (r : Option Byte) (s : State) :
    endTxn .cmd55 r s = { storeR1 r s with
      seqState := .operatingConditionPoll, attempts := s.attempts + 1, phase := .select .acmd41 } := by
  cases r <;> rfl

/-- The last step of a transaction is its last bus event and the lines after the transaction (R9). -/
theorem step_of_txnLastEvent {c : Cmd} {r : Option Byte} {s t : State} (hm : s.refusalMark = false)
    (hw : whoMoves s = .controller) (h : txnLastEvent c r s t) : step s = .next (endTxn c r t) := by
  rcases h with ⟨hp, hn, rfl⟩ | ⟨k, b, hp, hk, hb, rfl⟩
  · have hlast : seqStep (takeTurn s) = endTxn c r (csSet true (takeTurn s)) := by
      simp only [seqStep, takeTurn_phase, takeTurn_cfg, hp, enterLoop, hn, if_true]
    rw [step_unmarked hm, advance_of_seqStep hw (by simp [hp]), hlast]
    rfl
  · have hr : cardReply (takeTurn s) = some b := hb
    have hlast : seqStep (takeTurn s) = endTxn c r (exchange dummyByte (takeTurn s)) := by
      simp only [seqStep, takeTurn_phase, takeTurn_cfg, hp, sendByte_answer hr, nextIteration, Nat.not_lt.2 hk,
        if_false]
    rw [step_unmarked hm, advance_of_seqStep hw (by simp [hp]), hlast, exchange, hr]
    rfl

end Sys2Proof.Machine
end

section
/-! The statements of the encoding file (spec/30_encoding.md). -/

namespace Sys2Proof.Proofs

open Sys2Proof Sys2Proof.Machine

/-- Settles O1: an instruction is a request, whose opcode byte is read back, or a command, whose assembled frame is. -/
theorem decodeReadsBackEveryEncoding : Obligations.DecodeReadsBackEveryEncoding := by
  unfold Obligations.DecodeReadsBackEveryEncoding
  intro crc i _
  rcases instr_cases i with ⟨op, hop⟩ | ⟨-, c, a, rfl⟩
  · rw [encode_request crc hop]
    exact decodeOpcode_iff.2 hop
  · rw [encode_frame, decode_frameBytes, decodeFrame_assembleFrame]

/-- Settles O2: an opcode byte determines its request, and a frame that decodes is a command's, byte by byte but for the
CRC. -/
theorem decodedWordIsItsEncodingButForCrc : Obligations.DecodedWordIsItsEncodingButForCrc := by
  unfold Obligations.DecodedWordIsItsEncodingButForCrc
  refine ⟨fun crc op i h => encode_request crc (decodeOpcode_iff.1 h), fun crc f i h => ?_⟩
  obtain ⟨g, he, hb⟩ := decodeFrame_bytes crc h
  rw [he]
  refine ⟨?_, rfl⟩
  simp only [frameBytes, List.take, hb 0 (by decide), hb 1 (by decide), hb 2 (by decide), hb 3 (by decide),
    hb 4 (by decide)]

/-- Settles O15: `seqStep_opCondAfter` says which steps lead to SEND_OP_COND's transaction, `step_of_txnLastEvent` what
the last step of APP_CMD_PREFIX's does. -/
theorem opCondFollowsItsPrefix : Obligations.OpCondFollowsItsPrefix := by
  unfold Obligations.OpCondFollowsItsPrefix
  refine ⟨fun s t hw h ht => ?_, fun s t r hm hw h => ?_⟩
  · obtain ⟨r, u, hp, hu, rfl⟩ := advance_controller_opCondAfter (advance_of_step h).2 hw ht
    have counted : (endTxn .cmd55 r u).attempts = s.attempts + 1 := by rw [endTxn_cmd55, hu, takeTurn_attempts]
    refine ⟨r, hp, counted, ?_, rfl⟩
    rw [← countAttempt_opcondAttempts]
    exact opcondAttempts_congr counted
  · have ht : t.attempts = s.attempts := by
      rcases h with ⟨-, -, rfl⟩ | ⟨_, _, -, -, -, rfl⟩ <;> rfl
    rw [step_of_txnLastEvent hm hw h, endTxn_cmd55, ht, storeR1]

/-- Settles O16: the invariant's position names the running command, its level the selected card. -/
theorem onlyTheEightCommandsAreSent : Obligations.OnlyTheEightCommandsAreSent := by
  unfold Obligations.OnlyTheEightCommandsAreSent
  intro s f hi hp
  have position := hi.position
  have level := hi.level
  simp only [positionOk, hp] at position
  simp only [hp, phaseLevel] at level
  obtain ⟨c, ⟨-, sent, -⟩, rfl⟩ := position
  exact ⟨c, rfl, decodeFrame_assembleFrame _ c s.aLat, level, sent⟩

/-- Settles O59: the lines one by one; a label's position by passing over the lines before it; every label resolves
inside the program. -/
theorem hostProgramsAssembleAsTheirLines : Obligations.HostProgramsAssembleAsTheirLines := by
  unfold Obligations.HostProgramsAssembleAsTheirLines
  refine ⟨fun tgt => ?_, fun pre post l h => ?_, fun p l h => ?_, fun p => ?_⟩
  · exact ⟨fun _ => ⟨rfl, rfl⟩, fun _ _ => rfl, fun _ _ => rfl, rfl, rfl, rfl, fun _ => rfl, fun _ => rfl, rfl, rfl,
      fun v => ⟨by simp [expandLine, bufSize], fun j hj => expandLine_fill tgt v hj⟩, fun _ => ⟨rfl, rfl, rfl⟩⟩
  · intro p tgt
    constructor
    · simp only [assemble, p, tgt, List.flatMap_append, List.flatMap_singleton, expandLine, List.append_nil]
    · calc tgt l = (pre.flatMap (expandLine id)).length := (labelPosition_first h post 0).trans (Nat.zero_add _)
        _ = (pre.flatMap (expandLine tgt)).length := flatMap_expandLine_length id tgt pre
  · rw [labelPosition_missing h, Nat.zero_add]
    exact flatMap_expandLine_length _ _ p
  · have inside (l : Nat) : labelPosition l 0 p ≤ (assemble p).length := by
      have h := labelPosition_le l p 0
      rwa [Nat.zero_add, flatMap_expandLine_length id (fun l => labelPosition l 0 p)] at h
    refine List.all_eq_true.2 fun y hy => ?_
    obtain ⟨x, -, hx⟩ := List.mem_flatMap.1 hy
    exact expandLine_wf inside x y hx

/-- Settles O3: the words of the table are read one by one. -/
theorem decodesWordsOfTheTable : Obligations.DecodesWordsOfTheTable := by
  unfold Obligations.DecodesWordsOfTheTable
  decide

/-- Settles O7: a placed request word is the host's REQ write, a placed frame the sequencer's assembled one. -/
theorem placedWordIsRunNext : Obligations.PlacedWordIsRunNext := by
  unfold Obligations.PlacedWordIsRunNext
  intro s w i hm
  refine ⟨fun nbits hn h => ?_, fun h => ?_⟩
  · have hs : s.withFetchWord nbits w = { s with
        program := [.wr .word 0x000 (BitVec.ofNat 32 w)], hpc := 0, turns := .host :: s.turns } := if_pos hn
    have hstep := step_of_request (s := s.withFetchWord nbits w) (v := BitVec.ofNat 32 w)
    rw [hs] at hstep ⊢
    rw [hstep hm rfl rfl, runRequest, decodeTableWord_request hn h]
    rfl
  · have hstep := step_of_issue (s := s.withFetchWord 48 w) (f := BitVec.ofNat 48 w) hm rfl rfl
    rw [hstep, runFrame, decodeTableWord_frame h]
    rfl

/-- Settles O45: the host's move line by line; BUSY and ERR are read in the STATUS word's fields. -/
theorem hostControlFlowFollowsStatus : Obligations.HostControlFlowFollowsStatus := by
  unfold Obligations.HostControlFlowFollowsStatus
  intro s hm hw reply
  have busy : (statusWord s).getLsbD 0 = s.busy := (statusWord_flags s).1
  have err : (statusWord s).extractLsb' 8 4 = s.err.code := (statusWord_codes s).1
  refine ⟨fun hl => ?_, fun l hl => ?_, fun l hl => ?_, fun hl => ?_⟩
  · have hmove : hostMove (takeTurn s) =
        .done (readStatusThen (fun v => if v.getLsbD 0 then s.hpc else s.hpc + 1) (takeTurn s)) := by
      simp only [hostMove, takeTurn_program, takeTurn_hpc, hl]
    rw [step_of_hostMove hm hw hmove, readStatusThen_eq, statusWord_takeTurn, busy]
    rfl
  · have hmove : hostMove (takeTurn s) =
        .done (readStatusThen (fun v => if v.extractLsb' 8 4 = 0#4 then s.hpc + 1 else l) (takeTurn s)) := by
      simp only [hostMove, takeTurn_program, takeTurn_hpc, hl]
    rw [step_of_hostMove hm hw hmove, readStatusThen_eq, statusWord_takeTurn, err]
    simp only [errCode_eq_zero_iff]
    rfl
  · have hmove : hostMove (takeTurn s) = .done { takeTurn s with hpc := l } := by
      simp only [hostMove, takeTurn_program, takeTurn_hpc, hl]
    exact step_of_hostMove hm hw hmove
  · have hmove : hostMove (takeTurn s) = .done (takeTurn s) := by
      rcases hl with hl | hl <;> simp only [hostMove, takeTurn_program, takeTurn_hpc, hl]
    exact step_of_hostMove hm hw hmove

end Sys2Proof.Proofs
end

section
/-! SUPPORT. Runs of several steps, cut in two (spec/00_scope.md R9). -/

namespace Sys2Proof.Machine

theorem steps_succ {s t : State} (n : Nat) (h : step s = .next t) : steps (n + 1) s = steps n t := by
  simp only [steps, h]

theorem steps_add {m : Nat} {s t : State} (n : Nat) (h : steps m s = .next t) : steps (m + n) s = steps n t := by
  induction m generalizing s with
  | zero =>
    obtain rfl := Host.Outcome.next.inj h
    rw [Nat.zero_add]
  | succ m ih =>
    rw [Nat.succ_add]
    cases hs : step s with
    | next u =>
      rw [steps_succ _ hs] at h ⊢
      exact ih h
    | fault _ | refused _ => simp only [steps, hs, reduceCtorEq] at h

end Sys2Proof.Machine
end

section
/-! SUPPORT. A frame on the bus, byte by byte: which byte a step sends, and what the step leaves when the transport
answers and when it fails (spec/41_command_framing.md R401, R402, spec/60_exceptions.md R604, R612). -/

namespace Sys2Proof.Machine

/-! ### The bytes of a frame -/

/-- From byte `j` on a frame has byte `j` and then the bytes from `j + 1` on. -/
theorem frameBytes_drop (f : FrameWord) {j : Nat} (h : j < 6) :
    (frameBytes f).drop j = frameByte f j :: (frameBytes f).drop (j + 1) := by
  interval_cases j <;> rfl

/-- Bytes to send beyond the answers received make no exchange. -/
theorem exchanges_take (outs ins : List Byte) (h : ins.length ≤ outs.length) :
    exchanges (outs.take ins.length) ins = exchanges outs ins := by
  rw [exchanges, exchanges, List.zipWith_eq_zipWith_take_min (l₁ := outs), Nat.min_eq_right h, List.take_length]

/-! ### The phases of a frame -/

/-- The phase after a frame's last byte: the command's response read or data phase (R305, R432). -/
def tailPhase (c : Cmd) : Phase :=
  match c with
  | .cmd0 | .cmd8 | .cmd55 | .acmd41 | .cmd58 => .pollR1 c 1
  | .cmd9 | .cmd17 => .pollToken c 1
  | .cmd24 => .sendToken

theorem startTail_eq (c : Cmd) (s : State) : startTail c s = { s with phase := tailPhase c } := by
  cases c <;> rfl

/-- The phase of a frame with its first `j` bytes sent (R402). -/
def framePhase (c : Cmd) (f : FrameWord) : Nat → Phase
  | 0 => .issue f
  | j + 1 => if j < 5 then .frame c f (j + 1) else tailPhase c

/-- Byte `j` of the assembled frame of `c` is next, and every coming move is the controller's. -/
structure FrameByteNext (c : Cmd) (f : FrameWord) (j : Nat) (s : State) : Prop where
  mark : s.refusalMark = false
  turns : s.turns = []
  busy : s.busy = true
  frame : ∃ a, f = assembleFrame s.cfg.frameCrc c.index (c.argument a)
  phase : s.phase = framePhase c f j

/-- What the exchange of byte `j` leaves when the transport answers. -/
def frameByteSent (c : Cmd) (f : FrameWord) (j : Nat) (s : State) : State :=
  { exchange (frameByte f j) s with phase := framePhase c f (j + 1) }

section FrameByte

variable {c : Cmd} {f : FrameWord} {j : Nat} {s : State}

/-- The step at byte `j` of a frame sends it, whether byte 0 starts the frame or the sequencer goes on with it. -/
theorem step_of_frameByte (h : FrameByteNext c f j s) (hj : j < 6) :
    step s = .next (sendByte (frameByte f j) (fun t => { t with phase := framePhase c f (j + 1) }) s) := by
  obtain ⟨mark, turns, busy, ⟨a, frame⟩, phase⟩ := h
  have hw : whoMoves s = .controller := by simp only [whoMoves, turns, busy, if_true]
  have hturn : takeTurn s = s := by rw [takeTurn, turns, List.tail_nil, ← turns]
  cases j with
  | zero =>
    rw [step_of_issue mark hw phase, hturn, runFrame, frame, decodeFrame_assembleFrame]
    exact exec_frame c a s
  | succ j =>
    have inside : j < 5 := by omega
    have hp : s.phase = .frame c f (j + 1) := phase.trans (if_pos inside)
    rw [step_unmarked mark, advance_of_seqStep hw (by simp [hp]), hturn]
    simp only [seqStep, hp, startTail_eq, framePhase]
    congr 2
    funext t
    split <;> rfl

theorem step_of_frameByte_answer {b : Byte} (h : FrameByteNext c f j s) (hj : j < 6) (hr : cardReply s = some b) :
    step s = .next (frameByteSent c f j s) := by
  rw [step_of_frameByte h hj, sendByte_answer hr, frameByteSent]

theorem step_of_frameByte_failure (h : FrameByteNext c f j s) (hj : j < 6) (hr : cardReply s = none) :
    step s = .next (raise .busError (exchange (frameByte f j) s)) := by
  rw [step_of_frameByte h hj, sendByte_failure hr]

/-- An answered byte makes the frame's next byte next. -/
theorem frameByteSent_next (h : FrameByteNext c f j s) : FrameByteNext c f (j + 1) (frameByteSent c f j s) :=
  ⟨h.mark, h.turns, h.busy, h.frame, rfl⟩

end FrameByte

/-! ### The run through a frame -/

/-- What the answered exchanges of a frame's bytes from `j` on leave, `ins` what the card sent meanwhile and `rest` its
answers to come (R402). -/
def frameBytesSent (c : Cmd) (f : FrameWord) (j : Nat) (ins : List Byte) (rest : List (Option Byte)) (s : State) :
    State :=
  { s with
    trace := s.trace ++ exchanges ((frameBytes f).drop j) ins
    card := rest
    draws := s.draws + ins.length
    phase := framePhase c f (j + ins.length) }

/-- As long as the transport answers, each step sends the frame's next byte. -/
theorem steps_of_frameBytes {c : Cmd} {f : FrameWord} {j : Nat} {s : State} {ins : List Byte}
    {rest : List (Option Byte)} (h : FrameByteNext c f j s) (hcard : s.card = ins.map some ++ rest)
    (hlen : j + ins.length ≤ 6) :
    steps ins.length s = .next (frameBytesSent c f j ins rest s) ∧
    FrameByteNext c f (j + ins.length) (frameBytesSent c f j ins rest s) := by
  refine ⟨?_, h.mark, h.turns, h.busy, h.frame, rfl⟩
  induction ins generalizing j s with
  | nil =>
    have hrest : s.card = rest := hcard
    simp only [steps, frameBytesSent, exchanges, List.zipWith_nil_right, List.append_nil, List.length_nil,
      Nat.add_zero, ← hrest, ← h.phase]
  | cons b ins ih =>
    rw [List.length_cons] at hlen
    have hj : j < 6 := by omega
    have hr : cardReply s = some b := cardReply_cons hcard
    have hrest : (frameByteSent c f j s).card = ins.map some ++ rest := congrArg List.tail hcard
    calc steps (b :: ins).length s
        = steps ins.length (frameByteSent c f j s) := steps_succ _ (step_of_frameByte_answer h hj hr)
      _ = .next (frameBytesSent c f (j + 1) ins rest (frameByteSent c f j s)) :=
          ih (frameByteSent_next h) hrest (by omega)
      _ = .next (frameBytesSent c f j (b :: ins) rest s) := by
          simp [frameBytesSent, frameByteSent, exchange, record, hr, frameBytes_drop f hj, exchanges, Nat.add_assoc,
            Nat.add_comm 1]

/-- BusError at a byte of a frame leaves cs_n and the attempt count alone, and writes the ERR fields as in INIT or
outside it (R604, R612). -/
theorem raise_busError (s : State) :
    (raise .busError s).trace = s.trace ∧ (raise .busError s).csN = s.csN ∧
    (raise .busError s).attempts = s.attempts ∧
    (s.csN = false → (raise .busError s).phase = .errorExit) ∧ (s.csN = true → (raise .busError s).busy = false) ∧
    (s.opLat ≠ opInit → (raise .busError s).err = .busError ∧ (raise .busError s).errCause = .none) ∧
    (s.opLat = opInit →
      (raise .busError s).err = .initializationFailed ∧ (raise .busError s).errCause = .innerBusError) ∧
    (raise .busError s).errSite = .none := by
  obtain ⟨err, cause, site, -⟩ := raise_errorFields .busError s
  refine ⟨raise_trace _ _, raise_csN _ _, by rw [raise_eq], fun hc => by rw [raise_selected hc],
    fun hc => by rw [raise_deselected hc]; rfl, fun ho => ?_, fun ho => ?_, site⟩
  · rw [if_neg ho] at err cause
    exact ⟨err, cause⟩
  · rw [if_pos ho] at err cause
    exact ⟨err, cause⟩

end Sys2Proof.Machine
end

section
/-! The statements of the command framing file (spec/41_command_framing.md). -/

namespace Sys2Proof.Proofs

open Sys2Proof Sys2Proof.Machine

/-- Settles O14: `steps_of_frameBytes` is the run of answered bytes; all six bring the frame's tail, fewer the byte at
which the transport fails. -/
theorem frameIsSixExchangesOrStopsAtAFailure : Obligations.FrameIsSixExchangesOrStopsAtAFailure := by
  unfold Obligations.FrameIsSixExchangesOrStopsAtAFailure
  intro c a s f mark turns busy frame phase
  have start : FrameByteNext c f 0 s := ⟨mark, turns, busy, ⟨a, frame⟩, phase⟩
  refine ⟨fun ins rest hlen hcard => ?_, fun ins rest hlen hcard => ?_⟩
  · have run := (steps_of_frameBytes start hcard (by omega)).1
    rw [hlen] at run
    rw [run, frameBytesSent, hlen]
    cases c <;> rfl
  · obtain ⟨run, failing⟩ := steps_of_frameBytes start hcard (by omega)
    rw [Nat.zero_add] at failing
    have stop := step_of_frameByte_failure failing hlen rfl
    obtain ⟨trace, hrest⟩ :=
      raise_busError (exchange (frameByte f ins.length) (frameBytesSent c f 0 ins (none :: rest) s))
    refine ⟨_, (steps_add 1 run).trans (steps_succ 0 stop), ?_, hrest⟩
    rw [trace, exchanges_take _ _ (Nat.le_of_lt hlen)]
    rfl

/-- Settles O6: the controller's turn at an assembled frame is `step_of_issue`. -/
theorem stepRunsTheAssembledFrame : Obligations.StepRunsTheAssembledFrame := by
  unfold Obligations.StepRunsTheAssembledFrame
  intro s f i mark turn phase decoded
  rw [step_of_issue mark turn phase, runFrame, decoded]
  rfl

/-- Settles O13: the eight meanings are one operation, the answered exchange of byte 0. -/
theorem frameSendsItsFirstByte : Obligations.FrameSendsItsFirstByte := by
  unfold Obligations.FrameSendsItsFirstByte
  intro c a s b hr
  have first : frameByte (assembleFrame s.cfg.frameCrc c.index (c.argument a)) 0 = 0x40#8 ||| c.index.setWidth 8 :=
    assembleFrame_firstByte _ _ _
  rw [exec_frame, sendFrame, sendByte_answer hr, first, exchange, record, hr]

end Sys2Proof.Proofs
end

section
/-! SUPPORT. Answered exchanges of the dummy byte, one at a time and in a row: the bytes of the four polls, of Read4 and
of the preamble (spec/42_bus_transactions.md R437, R441 to R446). -/

namespace Sys2Proof.Machine

/-! ### One answered byte -/

/-- What an exchange of the dummy byte leaves when the card side answers `b` (R12, R317). -/
def byteRead (b : Byte) (s : State) : State :=
  { s with card := s.card.tail, draws := s.draws + 1, trace := s.trace ++ [.xfer dummyByte (some b)] }

theorem exchange_answer {s : State} {b : Byte} (h : cardReply s = some b) : exchange dummyByte s = byteRead b s := by
  rw [exchange, h]
  rfl

/-- On the controller's turn with no frame ready, the step is the sequencer's. -/
theorem step_of_seqStep {s : State} (hm : s.refusalMark = false) (hw : whoMoves s = .controller)
    (hissue : ∀ f, s.phase ≠ .issue f) : step s = .next (seqStep (takeTurn s)) :=
  (step_unmarked hm).trans (advance_of_seqStep hw hissue)

/-! ### A poll's byte -/

/-- What an answered byte of a poll leads to (R441), `t` the state its exchange leaves. -/
def afterPollByte (hit : Byte → Bool) (limit : Nat) (site : ErrSite) (k : Nat) (again : Nat → Phase)
    (found : Byte → State → State) (b : Byte) (t : State) : State :=
  if hit b then found b t
  else if k < limit then { t with phase := again (k + 1) }
  else raise (.deviceNotResponding site) t

section Outcomes

variable {hit : Byte → Bool} {limit : Nat} {site : ErrSite} {k : Nat} {again : Nat → Phase}
  {found : Byte → State → State} {b : Byte} {s t : State}

theorem poll_answer (h : cardReply s = some b) :
    poll hit limit site k again found s = afterPollByte hit limit site k again found b (byteRead b s) := by
  rw [poll, spiXfer_answer h, exchange_answer h, afterPollByte]

theorem step_of_hit (hs : step s = .next (afterPollByte hit limit site k again found b t)) (hb : hit b = true) :
    step s = .next (found b t) := by
  rw [hs, afterPollByte, if_pos hb]

/-- A byte that does not match: the next is polled within the bound, and at the bound the poll expires. -/
theorem step_of_miss (hs : step s = .next (afterPollByte hit limit site k again found b t)) (hb : hit b = false) :
    (k < limit → step s = .next { t with phase := again (k + 1) }) ∧
    (limit ≤ k → step s = .next (raise (.deviceNotResponding site) t)) := by
  rw [hs, afterPollByte, hb, if_neg Bool.false_ne_true]
  exact ⟨fun hk => by rw [if_pos hk], fun hk => by rw [if_neg (Nat.not_lt.2 hk)]⟩

end Outcomes

section Polls

variable {s : State} {b : Byte} {k : Nat} (hm : s.refusalMark = false) (hw : whoMoves s = .controller)
  (hr : cardReply s = some b)

include hm hw hr

/-- The step of a poll's answered byte, whichever poll the sequencer is in. -/
theorem step_of_poll {hit : Byte → Bool} {limit : Nat} {site : ErrSite} {again : Nat → Phase}
    {found : Byte → State → State} (hissue : ∀ f, s.phase ≠ .issue f)
    (hpoll : seqStep (takeTurn s) = poll hit limit site k again found (takeTurn s)) :
    step s = .next (afterPollByte hit limit site k again found b (byteRead b (takeTurn s))) := by
  have hreply : cardReply (takeTurn s) = some b := hr
  rw [step_of_seqStep hm hw hissue, hpoll, poll_answer hreply]

theorem step_of_pollR1 {c : Cmd} (hp : s.phase = .pollR1 c k) :
    step s = .next (afterPollByte isR1 s.cfg.r1PollLimit .r1Poll k (.pollR1 c) (gotR1 c) b
      (byteRead b (takeTurn s))) :=
  step_of_poll hm hw hr (by simp [hp]) (by simp only [seqStep, takeTurn_phase, takeTurn_cfg, hp])

theorem step_of_pollToken {c : Cmd} (hp : s.phase = .pollToken c k) :
    step s = .next (afterPollByte isStartToken s.cfg.tokenPollLimit .tokenPoll k (.pollToken c)
      (fun _ t => { t with phase := .readData c 0 }) b (byteRead b (takeTurn s))) :=
  step_of_poll hm hw hr (by simp [hp]) (by simp only [seqStep, takeTurn_phase, takeTurn_cfg, hp])

theorem step_of_pollDresp (hp : s.phase = .pollDresp k) :
    step s = .next (afterPollByte isDataResponse s.cfg.drespPollLimit .drespPoll k .pollDresp gotDataResponse b
      (byteRead b (takeTurn s))) :=
  step_of_poll hm hw hr (by simp [hp]) (by simp only [seqStep, takeTurn_phase, takeTurn_cfg, hp])

theorem step_of_pollBusy (hp : s.phase = .pollBusy k) :
    step s = .next (afterPollByte isNotBusy s.cfg.busyPollLimit .busyPoll k .pollBusy
      (fun _ => startEnd .cmd24 none) b (byteRead b (takeTurn s))) :=
  step_of_poll hm hw hr (by simp [hp]) (by simp only [seqStep, takeTurn_phase, takeTurn_cfg, hp])

end Polls

/-! ### Bytes read in a row -/

/-- A request runs, no host violation has happened, and every coming move is the controller's (R8). -/
structure ControllerOnly (s : State) : Prop where
  mark : s.refusalMark = false
  turns : s.turns = []
  busy : s.busy = true

theorem ControllerOnly.step_eq {s : State} (h : ControllerOnly s) (hissue : ∀ f, s.phase ≠ .issue f) :
    step s = .next (seqStep s) := by
  obtain ⟨mark, turns, busy⟩ := h
  have hw : whoMoves s = .controller := by simp only [whoMoves, turns, busy, if_true]
  have hturn : takeTurn s = s := by rw [takeTurn, turns, List.tail_nil, ← turns]
  rw [step_of_seqStep mark hw hissue, hturn]

/-- `ph` gives the phase by the bytes read so far: under the configuration `p` each of the first `n` answered bytes
moves on in it and does nothing else. -/
def ReadLoop (p : Params) (n : Nat) (ph : List Byte → Phase) : Prop :=
  ∀ (s : State) (got : List Byte) (b : Byte), ControllerOnly s → s.cfg = p → s.phase = ph got → got.length < n →
    cardReply s = some b → step s = .next { byteRead b s with phase := ph (got ++ [b]) }

/-- What answered exchanges of dummy bytes leave, `ins` what the card sent meanwhile and `rest` its answers to come. -/
def bytesRead (ins : List Byte) (rest : List (Option Byte)) (s : State) : State :=
  { s with trace := s.trace ++ reads ins, card := rest, draws := s.draws + ins.length }

theorem steps_of_readLoop {n : Nat} {ph : List Byte → Phase} {s : State} {got ins : List Byte}
    {rest : List (Option Byte)} (hl : ReadLoop s.cfg n ph) (h : ControllerOnly s) (hp : s.phase = ph got)
    (hcard : s.card = ins.map some ++ rest) (hlen : got.length + ins.length ≤ n) :
    steps ins.length s = .next { bytesRead ins rest s with phase := ph (got ++ ins) } := by
  induction ins generalizing got s with
  | nil =>
    have hrest : s.card = rest := hcard
    simp only [steps, bytesRead, reads, List.map_nil, List.append_nil, List.length_nil, Nat.add_zero, ← hrest, ← hp]
  | cons b ins ih =>
    rw [List.length_cons] at hlen
    have hr : cardReply s = some b := cardReply_cons hcard
    have hrest : s.card.tail = ins.map some ++ rest := congrArg List.tail hcard
    have hlen' : (got ++ [b]).length + ins.length ≤ n := by
      rw [List.length_append, List.length_singleton]
      omega
    calc steps (b :: ins).length s
        = steps ins.length { byteRead b s with phase := ph (got ++ [b]) } :=
          steps_succ _ (hl s got b h rfl hp (by omega) hr)
      _ = .next { bytesRead ins rest (byteRead b s) with phase := ph (got ++ [b] ++ ins) } :=
          ih hl ⟨h.mark, h.turns, h.busy⟩ rfl hrest hlen'
      _ = .next { bytesRead (b :: ins) rest s with phase := ph (got ++ b :: ins) } := by
          simp [bytesRead, byteRead, reads, Nat.add_assoc, Nat.add_comm 1]

/-! ### The four trailing bytes -/

/-- `shiftIn` puts the byte after the bits assembled so far (R446). -/
theorem shiftIn_setWidth {w : Nat} (v : BitVec w) (b : Byte) :
    shiftIn (v.setWidth 32) b = (v ++ b).setWidth 32 := by
  ext i hi
  simp only [shiftIn, BitVec.getElem_or, BitVec.getElem_shiftLeft, BitVec.getElem_setWidth, BitVec.getLsbD_append]
  split
  · next h => simp [h]
  · next h => simp [h, BitVec.getLsbD_of_ge b i (not_lt.1 h)]

theorem shiftIn_four (b1 b2 b3 b4 : Byte) :
    shiftIn (shiftIn (shiftIn (shiftIn 0 b1) b2) b3) b4 = b1 ++ b2 ++ b3 ++ b4 := by
  have first : shiftIn 0 b1 = b1.setWidth 32 := by simp [shiftIn]
  rw [first, shiftIn_setWidth, shiftIn_setWidth, shiftIn_setWidth, BitVec.setWidth_eq]

/-- `Read4`'s position after the bytes `got` (R446). -/
def readFourPhase (c : Cmd) (got : List Byte) : Phase := .readFour c (got.length + 1) (got.foldl shiftIn 0)

theorem readFour_loop (p : Params) (c : Cmd) : ReadLoop p 3 (readFourPhase c) := by
  intro s got b h _ hp hlen hr
  have inside : got.length + 1 < 4 := by omega
  rw [h.step_eq (by simp [hp, readFourPhase])]
  simp only [seqStep, hp, readFourPhase, spiXfer_answer hr, exchange_answer hr, if_pos inside, List.foldl_append,
    List.length_append, List.length_singleton, List.foldl_cons, List.foldl_nil]

/-- The step of the fourth byte writes what is assembled (R446). -/
theorem step_of_fourthByte {s : State} {c : Cmd} {v : Word} {b : Byte} (h : ControllerOnly s)
    (hp : s.phase = .readFour c 4 v) (hr : cardReply s = some b) :
    step s = .next (gotFour c (shiftIn v b) (byteRead b s)) := by
  rw [h.step_eq (by simp [hp])]
  simp only [seqStep, hp, spiXfer_answer hr, exchange_answer hr, lt_irrefl, if_false]

/-! ### The preamble -/

/-- The preamble's position after the dummy bytes `got` of `n` (R437). -/
def powerDummyPhase (n : Nat) (got : List Byte) : Phase :=
  if got.length < n then .powerDummy (got.length + 1) else .select .cmd0

theorem powerDummy_loop (p : Params) : ReadLoop p p.nPowerupDummy (powerDummyPhase p.nPowerupDummy) := by
  intro s got b h hcfg hp hlen hr
  have here : s.phase = .powerDummy (got.length + 1) := hp.trans (if_pos hlen)
  rw [h.step_eq (by simp [here])]
  simp only [seqStep, here, hcfg, sendByte_answer hr, exchange_answer hr, nextIteration, startTxn, powerDummyPhase,
    List.length_append, List.length_singleton]
  split <;> rfl

/-- The step of the preamble's `CS(1)`: the dummy bytes are next, or with none of them the first transaction (R437). -/
theorem step_of_preambleCs {s : State} (h : ControllerOnly s) (hp : s.phase = .preambleCs) :
    step s = .next { csSet true s with phase := powerDummyPhase s.cfg.nPowerupDummy [] } := by
  rw [h.step_eq (by simp [hp])]
  simp only [seqStep, hp, powerDummyPhase, List.length_nil]
  rcases enterLoop_cases s.cfg.nPowerupDummy (.powerDummy 1) (startTxn .cmd0) (csSet true s) with
    ⟨hn, enter⟩ | ⟨hn, enter⟩
  · rw [enter, if_pos hn]
  · rw [enter, if_neg (Nat.not_lt.2 hn.le), startTxn]

/-- The preamble's first two steps (R437): the clock is slow, the card deselected, and the dummy bytes are next. -/
theorem steps_of_preambleOutputs {s : State} (h : ControllerOnly s) (hp : s.phase = .clkSlow) :
    steps 2 s = .next { csSet true (clkSet .slow s) with phase := powerDummyPhase s.cfg.nPowerupDummy [] } := by
  have clock : step s = .next { clkSet .slow s with phase := .preambleCs } := by
    rw [h.step_eq (by simp [hp])]
    simp only [seqStep, hp]
  exact (steps_succ 1 clock).trans (steps_succ 0 (step_of_preambleCs ⟨h.mark, h.turns, h.busy⟩ rfl))

end Sys2Proof.Machine
end

section
/-! The statements of the bus transaction file (spec/42_bus_transactions.md). -/

namespace Sys2Proof.Proofs

open Sys2Proof Sys2Proof.Machine

/-- Settles O24: three bytes move on in Read4, and the fourth writes the four of them. -/
theorem fourTrailingBytesAreBigEndian : Obligations.FourTrailingBytesAreBigEndian := by
  unfold Obligations.FourTrailingBytesAreBigEndian
  intro s c b1 b2 b3 b4 rest mark turns busy hc phase card
  have three := steps_of_readLoop (got := []) (ins := [b1, b2, b3]) (rest := some b4 :: rest) (readFour_loop s.cfg c)
    ⟨mark, turns, busy⟩ phase card le_rfl
  have fourth := step_of_fourthByte (b := b4)
    (s := { bytesRead [b1, b2, b3] (some b4 :: rest) s with phase := readFourPhase c [b1, b2, b3] })
    ⟨mark, turns, busy⟩ rfl rfl
  refine ⟨_, (steps_add 1 three).trans (steps_succ 0 fourth), ?_⟩
  have value := shiftIn_four b1 b2 b3 b4
  rcases hc with rfl | rfl
  · exact ⟨List.append_assoc .., rfl, rfl, fun _ => ⟨rfl, value⟩, nofun⟩
  · exact ⟨List.append_assoc .., rfl, rfl, nofun, fun _ => ⟨rfl, value⟩⟩

/-- Settles O25: CLK(SLOW) and CS(1), then the loop of the dummy bytes. -/
theorem preambleClocksTheDeselectedCard : Obligations.PreambleClocksTheDeselectedCard := by
  unfold Obligations.PreambleClocksTheDeselectedCard
  intro s ins rest mark turns busy phase hlen card
  have outputs := steps_of_preambleOutputs ⟨mark, turns, busy⟩ phase
  have dummies := steps_of_readLoop (ins := ins) (rest := rest) (got := []) (powerDummy_loop s.cfg)
    (s := { csSet true (clkSet .slow s) with phase := powerDummyPhase s.cfg.nPowerupDummy [] })
    ⟨mark, turns, busy⟩ rfl card (by simp [hlen])
  rw [← hlen, steps_add _ outputs, dummies]
  simp [bytesRead, csSet, clkSet, record, powerDummyPhase, hlen, Nat.add_assoc]

/-- Settles O21: at each poll the byte is a miss. -/
theorem pollSkipsOrExpires : Obligations.PollSkipsOrExpires := by
  unfold Obligations.PollSkipsOrExpires
  intro s b mark turn reply
  refine ⟨fun c k hp hb => ?_, fun c k hp hb => ?_, fun k hp hb => ?_, fun k hp hb => ?_⟩
  · exact step_of_miss (step_of_pollR1 mark turn reply hp) (congrArg not hb)
  · exact step_of_miss (step_of_pollToken mark turn reply hp) (beq_false_of_ne hb)
  · exact step_of_miss (step_of_pollDresp mark turn reply hp) (beq_false_of_ne hb)
  · exact step_of_miss (step_of_pollBusy mark turn reply hp) (bne_eq_false_iff_eq.2 hb)

/-- Settles O22: at each poll the byte is a hit, and what it ends the poll with is `gotR1`, the data phase or the
transaction's end. -/
theorem pollMatchEndsThePoll : Obligations.PollMatchEndsThePoll := by
  unfold Obligations.PollMatchEndsThePoll
  intro s b mark turn reply
  refine ⟨fun c k hp hb => ?_, fun c k hp hb => ?_, fun k hp hb => ?_⟩
  · have found := step_of_hit (step_of_pollR1 mark turn reply hp) (congrArg not hb)
    refine ⟨fun hc => ?_, fun hc => ?_⟩
    · rcases hc with rfl | rfl <;> exact found
    · rcases hc with rfl | rfl | rfl <;> exact found
  · exact step_of_hit (step_of_pollToken mark turn reply hp) (beq_iff_eq.2 hb)
  · exact step_of_hit (step_of_pollBusy mark turn reply hp) (bne_iff_ne.2 hb)

end Sys2Proof.Proofs
end

section
/-! SUPPORT. What INIT makes of a transaction's response, said once for each check: the STRICT_INIT checks of R480 and
the judgement of SEND_OP_COND's response (spec/43_initialization.md R471 to R480). -/

namespace Sys2Proof.Machine

/-! ### The tests as statements about the registers -/

theorem resetResponseOk_iff (s : State) : resetResponseOk s = true ↔ s.r1 = 0x01 := by
  rw [resetResponseOk, beq_iff_eq]

theorem voltageResponseOk_iff (s : State) :
    voltageResponseOk s = true ↔
      s.r1 = 0x01 ∧ s.r7.extractLsb' 8 4 = 0x1#4 ∧ s.r7.extractLsb' 0 8 = 0xAA#8 := by
  simp only [voltageResponseOk, Bool.and_eq_true, beq_iff_eq, and_assoc]

theorem ocrResponseOk_iff (s : State) : ocrResponseOk s = true ↔ s.r1 = 0x00 ∧ s.ocr.getLsbD 31 = true := by
  rw [ocrResponseOk, Bool.and_eq_true, beq_iff_eq]

/-- `OpCondBusy(r)`: the card still initialises (R478). -/
theorem opCondBusy_iff (p : Polarity) (r : Byte) :
    opCondBusy p r = true ↔ (p = .protocol ∧ r ≠ 0x00) ∨ (p = .reference ∧ r = 0x00) := by
  cases p with
  | protocol => simp [opCondBusy]
  | reference => simp [opCondBusy]

/-! ### The checks -/

/-- A check that STRICT_INIT switches on: only a strict failing value leads to `fail` (R480). -/
theorem strictCheck {strict ok : Bool} {p : Prop} (hok : ok = true ↔ p) (fail pass : State) :
    (strict = true ∧ ¬ p → (if strict && !ok then fail else pass) = fail) ∧
    (strict = false ∨ p → (if strict && !ok then fail else pass) = pass) := by
  rw [← hok]
  cases strict with
  | false => exact ⟨nofun, fun _ => rfl⟩
  | true =>
    cases ok with
    | false => exact ⟨fun _ => rfl, nofun⟩
    | true => exact ⟨fun h => absurd rfl h.2, fun _ => rfl⟩

theorem afterReset_checked (s : State) :
    (s.cfg.strictInit = true ∧ s.r1 ≠ 0x01 → afterReset s = raise .unexpectedResponse s) ∧
    (s.cfg.strictInit = false ∨ s.r1 = 0x01 →
      afterReset s = { s with seqState := .voltageCheck, phase := .select .cmd8 }) :=
  strictCheck (resetResponseOk_iff s) _ _

theorem afterVoltageCheck_checked (s : State) :
    let ok : Prop := s.r1 = 0x01 ∧ s.r7.extractLsb' 8 4 = 0x1#4 ∧ s.r7.extractLsb' 0 8 = 0xAA#8
    (s.cfg.strictInit = true ∧ ¬ ok → afterVoltageCheck s = raise .unexpectedResponse s) ∧
    (s.cfg.strictInit = false ∨ ok →
      afterVoltageCheck s = { s with seqState := .appCmdPrefixSent, phase := .select .cmd55 }) :=
  strictCheck (voltageResponseOk_iff s) _ _

/-- After READ_OCR passes: the clock select, or with RAISE_CLOCK off the end of INIT (R479). -/
theorem afterReadOcr_checked (s : State) :
    let ok : Prop := s.r1 = 0x00 ∧ s.ocr.getLsbD 31 = true
    (s.cfg.strictInit = true ∧ ¬ ok → afterReadOcr s = raise .unexpectedResponse s) ∧
    (s.cfg.strictInit = false ∨ ok →
      afterReadOcr s = if s.cfg.raiseClock then { s with phase := .clkFast } else completeInit s) :=
  strictCheck (ocrResponseOk_iff s) _ _

theorem afterOpCond_ready {s : State} (h : opCondBusy s.cfg.opcondPolarity s.r1 = false) :
    afterOpCond s = { s with seqState := .readOcr, phase := .select .cmd58 } := by
  rw [afterOpCond, h]
  rfl

/-- While the card initialises, APP_CMD_PREFIX follows again within the retry bound, and at the bound INIT fails (R477). -/
theorem afterOpCond_busy {s : State} (h : opCondBusy s.cfg.opcondPolarity s.r1 = true) :
    afterOpCond s =
      if s.attempts = s.cfg.opcondRetryLimit then raise (.deviceNotResponding .opcondRetry) s
      else { s with seqState := .appCmdPrefixSent, phase := .select .cmd55 } := by
  rw [afterOpCond, if_pos h]
  rfl

/-! ### The last bus event of a transaction -/

/-- The last bus event of a transaction leaves the configuration, the responses and the attempt count alone. -/
theorem txnLastEvent_keeps {c : Cmd} {r : Option Byte} {s t : State} (h : txnLastEvent c r s t) :
    t.cfg = s.cfg ∧ t.r1 = s.r1 ∧ t.r7 = s.r7 ∧ t.ocr = s.ocr ∧ t.attempts = s.attempts := by
  rcases h with ⟨-, -, rfl⟩ | ⟨-, -, -, -, -, rfl⟩ <;> exact ⟨rfl, rfl, rfl, rfl, rfl⟩

end Sys2Proof.Machine
end

section
/-! SUPPORT. A whole transaction against a card that answers: its loops of dummy bytes, its frame, its R1 and trailing
bytes, and its end (spec/42_bus_transactions.md R432 to R434, R442, R446). -/

namespace Sys2Proof.Machine

/-! ### Loops of dummy bytes -/

/-- Under the configuration `p` the phases `again k` are the iterations of `for k in 1..n` of a dummy byte, and the
lines `done` that follow the loop do not look at the position they are reached from (R12). -/
structure DummyLoop (p : Params) (n : Nat) (again : Nat → Phase) (done : State → State) : Prop where
  body : ∀ (s : State) (k : Nat), s.cfg = p → s.phase = again k →
    seqStep s = sendByte dummyByte (nextIteration k n again done) s
  noFrame : ∀ (k : Nat) (f : FrameWord), again k ≠ .issue f
  position : ∀ (s : State) (ph : Phase), done { s with phase := ph } = done s

section DummyBytes

variable {p : Params} {n : Nat} {again : Nat → Phase} {done : State → State}

theorem DummyLoop.step_eq {s : State} {k : Nat} {b : Byte} (hl : DummyLoop s.cfg n again done) (h : ControllerOnly s)
    (hp : s.phase = again k) (hr : cardReply s = some b) :
    step s = .next (nextIteration k n again done (byteRead b s)) := by
  rw [h.step_eq (fun f => hp ▸ hl.noFrame k f), hl.body s k rfl hp, sendByte_answer hr, exchange_answer hr]

theorem DummyLoop.readLoop (hl : DummyLoop p n again done) :
    ReadLoop p (n - 1) (fun got => again (got.length + 1)) := by
  rintro s got b h rfl hp hlen hr
  have inside : got.length + 1 < n := by omega
  rw [hl.step_eq h hp hr, nextIteration, if_pos inside]
  simp only [List.length_append, List.length_singleton]

/-- One more byte after those read. -/
theorem byteRead_bytesRead (ins : List Byte) (b : Byte) (rest : List (Option Byte)) (ph : Phase) (s : State) :
    byteRead b { bytesRead ins (some b :: rest) s with phase := ph } =
      { bytesRead (ins ++ [b]) rest s with phase := ph } := by
  simp [byteRead, bytesRead, reads, Nat.add_assoc]

/-- The loop entered and run to its end: the bytes are read, and the lines after it run. -/
theorem DummyLoop.steps_eq {s : State} {ins : List Byte} {rest : List (Option Byte)}
    (hl : DummyLoop s.cfg n again done) (h : ControllerOnly s) (hcard : s.card = ins.map some ++ rest)
    (hlen : ins.length = n) :
    steps n (enterLoop n (again 1) done s) = .next (done (bytesRead ins rest s)) := by
  subst hlen
  rcases List.eq_nil_or_concat ins with rfl | ⟨front, b, rfl⟩
  · obtain rfl : s.card = rest := hcard
    simp only [bytesRead, reads, List.map_nil, List.append_nil, List.length_nil, Nat.add_zero]
    rfl
  · rw [List.concat_eq_append] at *
    have run := steps_of_readLoop (got := []) (ins := front) (rest := some b :: rest)
      (s := { s with phase := again 1 }) hl.readLoop ⟨h.mark, h.turns, h.busy⟩ rfl (by simpa using hcard) (by simp)
    have last := hl.step_eq (s := { bytesRead front (some b :: rest) s with phase := again (front.length + 1) })
      (b := b) ⟨h.mark, h.turns, h.busy⟩ rfl rfl
    rw [byteRead_bytesRead, nextIteration, List.length_append, List.length_singleton, if_neg (lt_irrefl _),
      hl.position] at last
    rw [List.length_append, List.length_singleton]
    exact (steps_add 1 run).trans (steps_succ 0 last)

end DummyBytes

/-! ### The lines after a loop do not look at their position -/

theorem leaveError_position (s : State) (ph : Phase) : leaveError { s with phase := ph } = leaveError s := by
  rw [leaveError, leaveError, forgetFilled_eq, forgetFilled_eq s, forgetFilled_mem, forgetFilled_mem]

theorem raise_position (e : Error) (s : State) (ph : Phase) : raise e { s with phase := ph } = raise e s := by
  unfold raise
  rw [← leaveError_position (recordError e s) ph]
  rfl

theorem endTxn_position (c : Cmd) (r : Option Byte) (s : State) (ph : Phase) :
    endTxn c r { s with phase := ph } = endTxn c r s := by
  have stored : storeR1 r { s with phase := ph } = { storeR1 r s with phase := ph } := by cases r <;> rfl
  cases c with
  | cmd0 => simp only [endTxn, stored, afterReset, raise_position]; rfl
  | cmd8 => simp only [endTxn, afterVoltageCheck, raise_position]; rfl
  | cmd55 => simp only [endTxn, stored]; rfl
  | acmd41 => simp only [endTxn, stored, afterOpCond, raise_position]; rfl
  | cmd58 => simp only [endTxn, afterReadOcr, raise_position]; rfl
  | cmd17 | cmd24 | cmd9 => rfl

/-! ### The transaction -/

theorem preDummy_loop (p : Params) (c : Cmd) : DummyLoop p p.nPreDummy (.preDummy c) (readyFrame c) where
  body s k hcfg hp := by simp only [seqStep, hp, hcfg]
  noFrame := nofun
  position _ _ := rfl

theorem postDummy_loop (p : Params) (c : Cmd) (r : Option Byte) :
    DummyLoop p p.nPostDummy (.postDummy c r) (endTxn c r) where
  body s k hcfg hp := by simp only [seqStep, hp, hcfg]
  noFrame := nofun
  position := endTxn_position c r

/-- What bus events leave that change no register: the chip select at `level`, the events `evs` recorded, the card's
answers `rest` to come, and the position `ph`. -/
def busRan (level : Bool) (evs : List BusEvent) (rest : List (Option Byte)) (ph : Phase) (s : State) : State :=
  { s with csN := level, trace := s.trace ++ evs, card := rest, draws := s.draws + evs.length, phase := ph }

theorem busRan_busRan (l l' : Bool) (evs evs' : List BusEvent) (rest rest' : List (Option Byte)) (ph ph' : Phase)
    (s : State) :
    busRan l' evs' rest' ph' (busRan l evs rest ph s) = busRan l' (evs ++ evs') rest' ph' s := by
  simp [busRan, Nat.add_assoc]

/-- The chip select is set, and then dummy bytes are read. -/
theorem bytesRead_csSet (l : Bool) (ins : List Byte) (rest : List (Option Byte)) (s : State) :
    bytesRead ins rest (csSet l s) = busRan l (.cs l :: reads ins) rest s.phase s := by
  simp [busRan, bytesRead, reads, csSet, record, Nat.add_assoc, Nat.add_comm 1]

theorem ControllerOnly.busRan {s : State} (h : ControllerOnly s) (l : Bool) (evs : List BusEvent)
    (rest : List (Option Byte)) (ph : Phase) : ControllerOnly (busRan l evs rest ph s) :=
  ⟨h.mark, h.turns, h.busy⟩

section Transaction

variable {s : State} {c : Cmd} {r : Option Byte} {rest : List (Option Byte)} (h : ControllerOnly s)

include h

/-- `Begin` (R433): the card is selected, the dummy bytes read, and the frame stands ready. -/
theorem steps_of_begin {pre : List Byte} (hp : s.phase = .select c) (hpre : pre.length = s.cfg.nPreDummy)
    (hcard : s.card = pre.map some ++ rest) :
    steps (s.cfg.nPreDummy + 1) s =
      .next (busRan false (.cs false :: reads pre) rest (.issue (frameOf c s)) s) := by
  have select : step s = .next (enterLoop s.cfg.nPreDummy (.preDummy c 1) (readyFrame c) (csSet false s)) := by
    rw [h.step_eq (by simp [hp])]
    simp only [seqStep, hp]
  have dummies := (preDummy_loop s.cfg c).steps_eq (s := csSet false s) ⟨h.mark, h.turns, h.busy⟩ hcard hpre
  rw [steps_succ _ select, dummies, bytesRead_csSet]
  rfl

/-- The frame (R402): its six bytes are sent, and the response or data phase of its command is next. -/
theorem steps_of_frame {fr : List Byte} (hp : s.phase = .issue (frameOf c s)) (hfr : fr.length = 6)
    (hcard : s.card = fr.map some ++ rest) :
    steps 6 s = .next (busRan s.csN (exchanges (frameBytes (frameOf c s)) fr) rest (tailPhase c) s) := by
  have start : FrameByteNext c (frameOf c s) 0 s := ⟨h.mark, h.turns, h.busy, ⟨s.aLat, rfl⟩, hp⟩
  have run := (steps_of_frameBytes start hcard (by omega)).1
  rw [hfr] at run
  rw [run, frameBytesSent, busRan]
  simp [exchanges, frameBytes, hfr, framePhase]

/-- From `CS(0)` to the end of the frame (R432): the command's response or data phase is next. -/
theorem steps_to_tail {pre fr : List Byte} (hp : s.phase = .select c) (hpre : pre.length = s.cfg.nPreDummy)
    (hfr : fr.length = 6) (hcard : s.card = pre.map some ++ (fr.map some ++ rest)) :
    steps (s.cfg.nPreDummy + 1 + 6) s =
      .next (busRan false (.cs false :: reads pre ++ exchanges (frameBytes (frameOf c s)) fr) rest (tailPhase c)
        s) := by
  rw [steps_add _ (steps_of_begin h hp hpre hcard), steps_of_frame (h.busRan ..) rfl hfr rfl, busRan_busRan]
  rfl

/-- `End` (R434): the card is deselected, the dummy bytes read, and the lines after the transaction run. -/
theorem steps_of_end {post : List Byte} (hp : s.phase = .deselect c r) (hpost : post.length = s.cfg.nPostDummy)
    (hcard : s.card = post.map some ++ rest) :
    steps (post.length + 1) s = .next (endTxn c r (busRan true (.cs true :: reads post) rest s.phase s)) := by
  have deselect : step s = .next (enterLoop s.cfg.nPostDummy (.postDummy c r 1) (endTxn c r) (csSet true s)) := by
    rw [h.step_eq (by simp [hp])]
    simp only [seqStep, hp]
  have dummies := (postDummy_loop s.cfg c r).steps_eq (s := csSet true s) ⟨h.mark, h.turns, h.busy⟩ hcard hpost
  rw [hpost, steps_succ _ deselect, dummies, bytesRead_csSet]

end Transaction

/-! ### The responses of INIT's commands -/

/-- SEND_VOLTAGE/INTERFACE_CONDITION's response is stored: its first byte in R1, the other four in R7 (R105, R446). -/
def storeR7 (b : Byte) (v : Word) (s : State) : State := { s with r1 := b, r7 := v }

/-- READ_OCR's response is stored: its first byte in R1, the other four in OCR (R105, R446). -/
def storeOcr (b : Byte) (v : Word) (s : State) : State := { s with r1 := b, ocr := v }

/-- A response that comes at the poll's first byte: the bytes the card sends, what the transaction returns, and what is
stored before its end (R442, R446, R471). -/
inductive Response : Cmd → List Byte → Option Byte → (State → State) → Prop
  | oneByte {c : Cmd} {b : Byte} (cmd : returnsR1 c) (hb : b.getLsbD 7 = false) : Response c [b] (some b) id
  | voltage {b : Byte} (v1 v2 v3 v4 : Byte) (hb : b.getLsbD 7 = false) :
      Response .cmd8 [b, v1, v2, v3, v4] none (storeR7 b (v1 ++ v2 ++ v3 ++ v4))
  | ocr {b : Byte} (o1 o2 o3 o4 : Byte) (hb : b.getLsbD 7 = false) :
      Response .cmd58 [b, o1, o2, o3, o4] none (storeOcr b (o1 ++ o2 ++ o3 ++ o4))

/-- The step of an R1 byte (R442). -/
theorem step_of_r1 {s : State} {c : Cmd} {k : Nat} {b : Byte} (h : ControllerOnly s) (hp : s.phase = .pollR1 c k)
    (hr : cardReply s = some b) (hb : b.getLsbD 7 = false) : step s = .next (gotR1 c b (byteRead b s)) := by
  rw [h.step_eq (by simp [hp])]
  simp only [seqStep, hp, poll_answer hr, afterPollByte, isR1, hb, Bool.not_false, if_true]

/-- Read4 as a whole (R446). -/
theorem steps_of_readFour {s : State} {c : Cmd} {b1 b2 b3 b4 : Byte} {rest : List (Option Byte)}
    (h : ControllerOnly s) (hp : s.phase = .readFour c 1 0)
    (hcard : s.card = [b1, b2, b3, b4].map some ++ rest) :
    steps 4 s = .next (gotFour c (b1 ++ b2 ++ b3 ++ b4) (bytesRead [b1, b2, b3, b4] rest s)) := by
  have three := steps_of_readLoop (got := []) (ins := [b1, b2, b3]) (rest := some b4 :: rest) (readFour_loop s.cfg c)
    h hp hcard le_rfl
  have fourth := step_of_fourthByte (b := b4)
    (s := { bytesRead [b1, b2, b3] (some b4 :: rest) s with phase := readFourPhase c [b1, b2, b3] })
    ⟨h.mark, h.turns, h.busy⟩ rfl rfl
  rw [byteRead_bytesRead] at fourth
  refine ((steps_add 1 three).trans (steps_succ 0 fourth)).trans ?_
  rw [← shiftIn_four]
  cases c <;> rfl

section Responses

variable {s : State} {c : Cmd} {ins : List Byte} {r : Option Byte} {store : State → State}
  {rest : List (Option Byte)}

/-- No bus event reads the registers a response is stored in. -/
theorem Response.store_busRan (resp : Response c ins r store) (l : Bool) (evs : List BusEvent) (ph : Phase) :
    store (busRan l evs rest ph s) = busRan l evs rest ph (store s) := by
  cases resp <;> rfl

theorem Response.store_cfg (resp : Response c ins r store) (s : State) : (store s).cfg = s.cfg := by
  cases resp <;> rfl

theorem Response.store_controllerOnly (resp : Response c ins r store) (h : ControllerOnly s) :
    ControllerOnly (store s) := by
  cases resp <;> exact ⟨h.mark, h.turns, h.busy⟩

/-- A five-byte response's bytes, up to the write of the last four (R442, R446). -/
theorem steps_of_fiveBytes {b v1 v2 v3 v4 : Byte} (h : ControllerOnly s) (hc : c = .cmd8 ∨ c = .cmd58)
    (hp : s.phase = .pollR1 c 1) (hb : b.getLsbD 7 = false)
    (hcard : s.card = [b, v1, v2, v3, v4].map some ++ rest) :
    steps 5 s = .next (gotFour c (v1 ++ v2 ++ v3 ++ v4) { bytesRead [b, v1, v2, v3, v4] rest s with r1 := b }) := by
  have first : step s = .next { byteRead b s with r1 := b, phase := .readFour c 1 0 } := by
    rw [step_of_r1 h hp (cardReply_cons hcard) hb]
    rcases hc with rfl | rfl <;> rfl
  have four := steps_of_readFour (c := c) (s := { byteRead b s with r1 := b, phase := .readFour c 1 0 })
    ⟨h.mark, h.turns, h.busy⟩ rfl (congrArg List.tail hcard)
  rw [steps_succ 4 first, four]
  rcases hc with rfl | rfl <;> simp [gotFour, startEnd, bytesRead, byteRead, reads, Nat.add_assoc]

/-- The response read of INIT's commands (R442, R446): every byte is read, and the end of the transaction is next. -/
theorem steps_of_response (resp : Response c ins r store) (h : ControllerOnly s) (hp : s.phase = tailPhase c)
    (hcard : s.card = ins.map some ++ rest) :
    steps ins.length s = .next (busRan s.csN (reads ins) rest (.deselect c r) (store s)) := by
  cases resp with
  | @oneByte _ b cmd hb =>
    have hp' : s.phase = .pollR1 c 1 := by rcases cmd with rfl | rfl | rfl <;> exact hp
    obtain rfl : s.card.tail = rest := congrArg List.tail hcard
    refine (steps_succ 0 (step_of_r1 h hp' (cardReply_cons hcard) hb)).trans ?_
    rcases cmd with rfl | rfl | rfl <;> rfl
  | voltage v1 v2 v3 v4 hb => exact steps_of_fiveBytes h (.inl rfl) hp hb hcard
  | ocr o1 o2 o3 o4 hb => exact steps_of_fiveBytes h (.inr rfl) hp hb hcard

/-- The bus events of a transaction whose tail takes `n` (R432). -/
def txnSteps (p : Params) (n : Nat) : Nat := p.nPreDummy + 1 + 6 + (n + (p.nPostDummy + 1))

/-- The transaction of `c` starts under the configuration `p`, and every coming move is the controller's. -/
structure AtTxn (p : Params) (c : Cmd) (s : State) : Prop where
  only : ControllerOnly s
  cfg : s.cfg = p
  phase : s.phase = .select c

/-- The bytes of a transaction that the block discards, as many as it reads them (R402, R433, R434, R438). -/
structure Discarded (p : Params) (pre fr post : List Byte) : Prop where
  pre : pre.length = p.nPreDummy
  frame : fr.length = 6
  post : post.length = p.nPostDummy

/-- A whole transaction of INIT (R432): the bus events are recorded, the response stored, and the lines after it run. -/
theorem steps_of_txn {p : Params} {pre fr post : List Byte} (resp : Response c ins r store) (h : AtTxn p c s)
    (hd : Discarded p pre fr post) (hcard : s.card = (pre ++ fr ++ ins ++ post).map some ++ rest) :
    steps (txnSteps p ins.length) s =
      .next (endTxn c r (busRan true (txnEvents (frameOf c s) pre fr (reads ins) post) rest (.deselect c r)
        (store s))) := by
  obtain ⟨only, rfl, hp⟩ := h
  obtain ⟨hpre, hfr, hpost⟩ := hd
  have hcard' : s.card = pre.map some ++ (fr.map some ++ (ins.map some ++ (post.map some ++ rest))) := by
    simpa only [List.map_append, List.append_assoc] using hcard
  have toTail := steps_to_tail only hp hpre hfr hcard'
  have answered (evs : List BusEvent) := steps_of_response (rest := post.map some ++ rest) resp
    (only.busRan false evs (ins.map some ++ (post.map some ++ rest)) (tailPhase c)) rfl rfl
  have ended (evs : List BusEvent) := steps_of_end (c := c) (r := r) (post := post) (rest := rest)
    ((resp.store_controllerOnly only).busRan false evs (post.map some ++ rest) (.deselect c r)) rfl
    (hpost.trans (congrArg Params.nPostDummy (resp.store_cfg s)).symm) rfl
  simp only [resp.store_busRan, busRan_busRan] at answered ended
  rw [txnSteps, ← hpost, steps_add _ toTail, steps_add _ (answered _)]
  refine (ended _).trans ?_
  simp only [txnEvents, List.append_assoc, List.cons_append, List.nil_append]
  rfl

end Responses

end Sys2Proof.Machine
end

section
/-! SUPPORT. A run of INIT against a card whose responses pass: its transactions, each with what it leads to, and its
end (spec/43_initialization.md R471 to R479). -/

namespace Sys2Proof.Machine

/-- INIT goes on under STATE `q` with the transaction of `d` (R471). -/
def continueInit (q : SeqState) (d : Cmd) (s : State) : State := startTxn d { s with seqState := q }

/-- The state after the bus events of a transaction of INIT, what it returned stored in R1 (R432, R471). -/
def txnRan (c : Cmd) (r : Option Byte) (evs : List BusEvent) (rest : List (Option Byte)) (s : State) : State :=
  storeR1 r (busRan true evs rest (.deselect c r) s)

/-- The buffers and their flags are as they were. -/
structure BuffersKept (s t : State) : Prop where
  bufValid : t.bufValid = s.bufValid
  csdValid : t.csdValid = s.csdValid
  capValid : t.capValid = s.capValid
  mem : t.mem = s.mem

theorem BuffersKept.trans {s t u : State} (h : BuffersKept s t) (k : BuffersKept t u) : BuffersKept s u :=
  ⟨k.bufValid.trans h.bufValid, k.csdValid.trans h.csdValid, k.capValid.trans h.capValid, k.mem.trans h.mem⟩

/-- The end of INIT, with the clock select if there is one (R479). -/
def initEnded (raiseClock : Bool) (s : State) : State :=
  { completeInit s with
    clkSel := if raiseClock then .fast else s.clkSel
    trace := s.trace ++ (if raiseClock then [.clk .fast] else [])
    draws := s.draws + (if raiseClock then 1 else 0) }

/-- After READ_OCR (R479): the clock select, if there is one, and then READY. -/
theorem steps_of_initEnd {s : State} (h : ControllerOnly s) :
    steps (if s.cfg.raiseClock then 1 else 0)
      (if s.cfg.raiseClock then { s with phase := .clkFast } else completeInit s) =
      .next (initEnded s.cfg.raiseClock s) := by
  cases s.cfg.raiseClock with
  | false => simp [steps, initEnded, completeInit, complete]
  | true =>
    have only : ControllerOnly { s with phase := .clkFast } := ⟨h.mark, h.turns, h.busy⟩
    exact steps_succ 0 (only.step_eq nofun)

/-- The state after INIT's preamble, `ins` what the card sent meanwhile and `rest` its answers to come (R437). -/
def preambleRan (ins : List Byte) (rest : List (Option Byte)) (s : State) : State :=
  { s with
    clkSel := .slow, csN := true
    trace := s.trace ++ [.clk .slow, .cs true] ++ reads ins
    card := rest, draws := s.draws + (2 + s.cfg.nPowerupDummy)
    phase := .select .cmd0 }

theorem steps_of_preamble {s : State} {ins : List Byte} {rest : List (Option Byte)} (h : ControllerOnly s)
    (hp : s.phase = .clkSlow) (hlen : ins.length = s.cfg.nPowerupDummy) (hcard : s.card = ins.map some ++ rest) :
    steps (2 + s.cfg.nPowerupDummy) s = .next (preambleRan ins rest s) ∧
    AtTxn s.cfg .cmd0 (preambleRan ins rest s) ∧ BuffersKept s (preambleRan ins rest s) :=
  ⟨Proofs.preambleClocksTheDeselectedCard s ins rest h.mark h.turns h.busy hp hlen hcard,
    ⟨⟨h.mark, h.turns, h.busy⟩, rfl, rfl⟩, rfl, rfl, rfl, rfl⟩

/-! ### The transactions -/

section Transactions

variable {p : Params} {s : State} {pre fr post : List Byte} {b v1 v2 v3 v4 : Byte} {rest : List (Option Byte)}
  (hd : Discarded p pre fr post)

include hd

/-- R472: RESET leads to VOLTAGE_CHECK. -/
theorem steps_of_resetTxn (h : AtTxn p .cmd0 s) (strict : p.strictInit = false) (hb : b.getLsbD 7 = false)
    (hcard : s.card = (pre ++ fr ++ [b] ++ post).map some ++ rest) :
    let t := continueInit .voltageCheck .cmd8
      (txnRan .cmd0 (some b) (txnEvents (frameOf .cmd0 s) pre fr (reads [b]) post) rest s)
    steps (txnSteps p 1) s = .next t ∧ AtTxn p .cmd8 t ∧ BuffersKept s t := by
  have run := steps_of_txn (.oneByte (.inl rfl) hb) h hd hcard
  obtain ⟨⟨mark, turns, busy⟩, rfl, -⟩ := h
  exact ⟨run.trans (congrArg _ ((afterReset_checked _).2 (.inl strict))), ⟨⟨mark, turns, busy⟩, rfl, rfl⟩,
    rfl, rfl, rfl, rfl⟩

/-- R473: VOLTAGE_CHECK stores R7 and leads to the first APP_CMD_PREFIX. -/
theorem steps_of_voltageTxn (h : AtTxn p .cmd8 s) (strict : p.strictInit = false) (hb : b.getLsbD 7 = false)
    (hcard : s.card = (pre ++ fr ++ [b, v1, v2, v3, v4] ++ post).map some ++ rest) :
    let t := continueInit .appCmdPrefixSent .cmd55
      (txnRan .cmd8 none (txnEvents (frameOf .cmd8 s) pre fr (reads [b, v1, v2, v3, v4]) post) rest
        (storeR7 b (v1 ++ v2 ++ v3 ++ v4) s))
    steps (txnSteps p 5) s = .next t ∧ AtTxn p .cmd55 t ∧ BuffersKept s t := by
  have run := steps_of_txn (.voltage v1 v2 v3 v4 hb) h hd hcard
  obtain ⟨⟨mark, turns, busy⟩, rfl, -⟩ := h
  exact ⟨run.trans (congrArg _ ((afterVoltageCheck_checked _).2 (.inl strict))), ⟨⟨mark, turns, busy⟩, rfl, rfl⟩,
    rfl, rfl, rfl, rfl⟩

/-- R474, R475: APP_CMD_PREFIX counts the attempt and leads to SEND_OP_COND. -/
theorem steps_of_prefixTxn (h : AtTxn p .cmd55 s) (hb : b.getLsbD 7 = false)
    (hcard : s.card = (pre ++ fr ++ [b] ++ post).map some ++ rest) :
    let t := continueInit .operatingConditionPoll .acmd41 (countAttempt
      (txnRan .cmd55 (some b) (txnEvents (frameOf .cmd55 s) pre fr (reads [b]) post) rest s))
    steps (txnSteps p 1) s = .next t ∧ AtTxn p .acmd41 t ∧ BuffersKept s t := by
  have run := steps_of_txn (.oneByte (.inr (.inl rfl)) hb) h hd hcard
  obtain ⟨⟨mark, turns, busy⟩, rfl, -⟩ := h
  exact ⟨run.trans (congrArg _ (endTxn_cmd55 ..)), ⟨⟨mark, turns, busy⟩, rfl, rfl⟩, rfl, rfl, rfl, rfl⟩

/-- R477, R478: the response 0x00 says ready under the PROTOCOL polarity, and leads to READ_OCR. -/
theorem steps_of_readyOpCondTxn (h : AtTxn p .acmd41 s) (polarity : p.opcondPolarity = .protocol)
    (hcard : s.card = (pre ++ fr ++ [0x00] ++ post).map some ++ rest) :
    let t := continueInit .readOcr .cmd58
      (txnRan .acmd41 (some 0x00) (txnEvents (frameOf .acmd41 s) pre fr (reads [0x00]) post) rest s)
    steps (txnSteps p 1) s = .next t ∧ AtTxn p .cmd58 t ∧ BuffersKept s t := by
  have run := steps_of_txn (.oneByte (.inr (.inr rfl)) rfl) h hd hcard
  obtain ⟨⟨mark, turns, busy⟩, rfl, -⟩ := h
  have ready : opCondBusy s.cfg.opcondPolarity 0x00 = false := by rw [polarity]; rfl
  exact ⟨run.trans (congrArg _ (afterOpCond_ready ready)), ⟨⟨mark, turns, busy⟩, rfl, rfl⟩, rfl, rfl, rfl, rfl⟩

/-- R476, R479: READ_OCR stores OCR; the clock select follows, if there is one, and INIT ends. -/
theorem steps_of_ocrTxn (h : AtTxn p .cmd58 s) (strict : p.strictInit = false) (hb : b.getLsbD 7 = false)
    (hcard : s.card = (pre ++ fr ++ [b, v1, v2, v3, v4] ++ post).map some ++ rest) :
    let t := txnRan .cmd58 none (txnEvents (frameOf .cmd58 s) pre fr (reads [b, v1, v2, v3, v4]) post) rest
      (storeOcr b (v1 ++ v2 ++ v3 ++ v4) s)
    let u := initEnded p.raiseClock t
    steps (txnSteps p 5 + (if p.raiseClock then 1 else 0)) s = .next u ∧ BuffersKept s u := by
  have run := steps_of_txn (.ocr v1 v2 v3 v4 hb) h hd hcard
  obtain ⟨⟨mark, turns, busy⟩, rfl, -⟩ := h
  have ended := run.trans (congrArg _ ((afterReadOcr_checked _).2 (.inl strict)))
  intro t
  have only : ControllerOnly t := ⟨mark, turns, busy⟩
  exact ⟨(steps_add _ ended).trans (steps_of_initEnd only), rfl, rfl, rfl, rfl⟩

end Transactions

end Sys2Proof.Machine
end

section
/-! The statements of the initialisation file (spec/43_initialization.md). -/

namespace Sys2Proof.Proofs

open Sys2Proof Sys2Proof.Machine

/-- Settles O26: the last step of the transaction is its bus event and then `afterOpCond`, R1 holding the response. -/
theorem opCondResponseIsJudged : Obligations.OpCondResponseIsJudged := by
  unfold Obligations.OpCondResponseIsJudged
  intro s t r mark turn last initializing
  obtain ⟨cfg, -, -, -, attempts⟩ := txnLastEvent_keeps last
  have judged : step s = .next (afterOpCond { t with r1 := r }) := step_of_txnLastEvent mark turn last
  have busy_iff : opCondBusy t.cfg.opcondPolarity r = true ↔ initializing := by
    rw [cfg]
    exact opCondBusy_iff _ r
  refine ⟨fun ready => ?_, fun busy within => ?_, fun busy atLimit => ?_⟩
  · rw [judged, afterOpCond_ready (Bool.eq_false_iff.2 (mt busy_iff.1 ready))]
  · rw [judged, afterOpCond_busy (busy_iff.2 busy), if_neg (by rwa [attempts, cfg])]
  · rw [judged, afterOpCond_busy (busy_iff.2 busy), if_pos (by rwa [attempts, cfg])]

/-- Settles O27: the last step of each checked transaction is its bus event and then the check. -/
theorem strictInitChecksResponses : Obligations.StrictInitChecksResponses := by
  unfold Obligations.StrictInitChecksResponses
  intro s t r c mark turn last
  obtain ⟨cfg, r1, r7, ocr, -⟩ := txnLastEvent_keeps last
  have ended : step s = .next (endTxn c r t) := step_of_txnLastEvent mark turn last
  rw [← cfg, ← r1, ← r7, ← ocr, ended]
  refine ⟨?_, ?_, ?_⟩
  · rintro v rfl rfl
    obtain ⟨fails, passes⟩ := afterReset_checked { t with r1 := v }
    exact ⟨fun h => congrArg _ (fails h), fun h => congrArg _ (passes h)⟩
  · rintro rfl ok
    obtain ⟨fails, passes⟩ := afterVoltageCheck_checked t
    exact ⟨fun h => congrArg _ (fails h), fun h => congrArg _ (passes h)⟩
  · rintro rfl ok
    obtain ⟨fails, passes⟩ := afterReadOcr_checked t
    refine ⟨fun h => congrArg _ (fails h), fun h clock => ?_, fun h clock => ?_⟩
    · exact congrArg _ ((passes h).trans (if_pos clock))
    · exact congrArg _ ((passes h).trans (if_neg (by rw [clock]; exact Bool.false_ne_true)))

/-- Settles O28: the preamble and the five transactions, each a run of its own, the last of which ends INIT. -/
theorem initBringsTheCardUp : Obligations.InitBringsTheCardUp := by
  unfold Obligations.InitBringsTheCardUp
  intro s up p0 f0 q0 p1 f1 q1 p2 f2 q2 p3 f3 q3 p4 f4 q4 r0 r1 r2 r4 v1 v2 v3 v4 o1 o2 o3 o4 rest mark idle ready turns
    strict polarity hup hp hf hq hr hcard frame
  simp only [List.forall_mem_cons, List.not_mem_nil, false_imp_iff, implies_true, and_true] at hp hf hq hr
  obtain ⟨hp0, hp1, hp2, hp3, hp4⟩ := hp
  obtain ⟨hf0, hf1, hf2, hf3, hf4⟩ := hf
  obtain ⟨hq0, hq1, hq2, hq3, hq4⟩ := hq
  obtain ⟨hr0, hr1, hr2, hr4⟩ := hr
  have card : s.card = up.map some ++ ((p0 ++ f0 ++ [r0] ++ q0).map some ++
      ((p1 ++ f1 ++ [r1, v1, v2, v3, v4] ++ q1).map some ++ ((p2 ++ f2 ++ [r2] ++ q2).map some ++
      ((p3 ++ f3 ++ [0x00] ++ q3).map some ++ ((p4 ++ f4 ++ [r4, o1, o2, o3, o4] ++ q4).map some ++ rest))))) := by
    simpa only [List.map_append, List.append_assoc] using hcard
  have accepted : exec .init s = .next (startInit (accept opInit s)) := by
    simp only [exec, execInit, present, idle, ready, Bool.false_eq_true, if_false, if_true]
  have running : ControllerOnly (startInit (accept opInit s)) := ⟨mark, turns, rfl⟩
  obtain ⟨preamble, atReset, kept⟩ := steps_of_preamble running rfl hup card
  obtain ⟨reset, atVoltage, kept0⟩ := steps_of_resetTxn ⟨hp0, hf0, hq0⟩ atReset strict hr0 rfl
  obtain ⟨voltage, atPrefix, kept1⟩ := steps_of_voltageTxn ⟨hp1, hf1, hq1⟩ atVoltage strict hr1 rfl
  obtain ⟨prefixed, atOpCond, kept2⟩ := steps_of_prefixTxn ⟨hp2, hf2, hq2⟩ atPrefix hr2 rfl
  obtain ⟨opCond, atOcr, kept3⟩ := steps_of_readyOpCondTxn ⟨hp3, hf3, hq3⟩ atOpCond polarity rfl
  obtain ⟨ocr, kept4⟩ := steps_of_ocrTxn ⟨hp4, hf4, hq4⟩ atOcr strict hr4 rfl
  have count : 2 + s.cfg.nPowerupDummy + 5 * (2 + s.cfg.nPreDummy + 6 + s.cfg.nPostDummy) + 8 + 5 +
      (if s.cfg.raiseClock then 1 else 0) = 2 + s.cfg.nPowerupDummy + (txnSteps s.cfg 1 + (txnSteps s.cfg 5 +
      (txnSteps s.cfg 1 + (txnSteps s.cfg 1 + (txnSteps s.cfg 5 + (if s.cfg.raiseClock then 1 else 0)))))) := by
    simp only [txnSteps]
    ring
  have run := (steps_add _ preamble).trans ((steps_add _ reset).trans ((steps_add _ voltage).trans
    ((steps_add _ prefixed).trans ((steps_add _ opCond).trans ocr))))
  obtain ⟨bufValid, csdValid, capValid, mem⟩ :=
    ((((kept.trans kept0).trans kept1).trans kept2).trans kept3).trans kept4
  -- Every other field, the trace included, is read off the last state of the run.
  exact ⟨_, _, accepted, (congrArg (steps · _) count).trans run, rfl, rfl, rfl, rfl, rfl, rfl, rfl, rfl, rfl, rfl, rfl,
    rfl, rfl, rfl, rfl, rfl, bufValid, csdValid, capValid, rfl, fun a => congrArg (Memory.read · a) mem⟩

end Sys2Proof.Proofs
end

section
/-! SUPPORT. Rows of answered exchanges, and the polls run from their first byte to a match or to their end
(spec/42_bus_transactions.md R441 to R445). -/

namespace Sys2Proof.Machine

/-! ### One more bus event -/

/-- An answered exchange is one more event. -/
theorem exchange_busRan (o b : Byte) (l : Bool) (evs : List BusEvent) (rest : List (Option Byte)) (ph : Phase)
    (s : State) :
    exchange o (busRan l evs (some b :: rest) ph s) = busRan l (evs ++ [.xfer o (some b)]) rest ph s := by
  simp [exchange, cardReply, record, busRan, Nat.add_assoc]

/-- The chip select is set after other bus events. -/
theorem csSet_busRan (l l' : Bool) (evs : List BusEvent) (rest : List (Option Byte)) (ph : Phase) (s : State) :
    csSet l' (busRan l evs rest ph s) = busRan l' (evs ++ [.cs l']) rest ph s := by
  simp [csSet, record, busRan, Nat.add_assoc]

/-- The bytes of a loop of dummy bytes are events like others. -/
theorem bytesRead_busRan (ins : List Byte) (l : Bool) (evs : List BusEvent) (rest rest' : List (Option Byte))
    (ph : Phase) (s : State) :
    bytesRead ins rest' (busRan l evs rest ph s) = busRan l (evs ++ reads ins) rest' ph s := by
  simp [bytesRead, busRan, reads, Nat.add_assoc]

/-- The events of bytes read are those of exchanges in which the dummy byte is sent (R317). -/
theorem exchanges_dummyByte (ins : List Byte) : exchanges (List.replicate ins.length dummyByte) ins = reads ins := by
  induction ins with
  | nil => rfl
  | cons b ins ih => simpa [exchanges, reads, List.replicate_succ] using ih

theorem reads_append (ins ins' : List Byte) : reads (ins ++ ins') = reads ins ++ reads ins' := List.map_append

/-! ### A row of exchanges -/

/-- A row of steps, each the exchange of a byte of `outs` for one of `ins`: before byte `i` the position is `ph i`, and
`w i` is the block but for its position, its chip select and what bus events write. -/
def ExchangeRow (outs ins : List Byte) (ph : Nat → Phase) (w : Nat → State) : Prop :=
  ∀ (i : Nat) (o b : Byte), outs[i]? = some o → ins[i]? = some b →
    ∀ (l : Bool) (evs : List BusEvent) (rest : List (Option Byte)),
      step (busRan l evs (some b :: rest) (ph i) (w i)) =
        .next (busRan l (evs ++ [.xfer o (some b)]) rest (ph (i + 1)) (w (i + 1)))

theorem ExchangeRow.steps_eq {outs ins : List Byte} {ph : Nat → Phase} {w : Nat → State}
    (h : ExchangeRow outs ins ph w) (hlen : outs.length = ins.length) (l : Bool) (evs : List BusEvent)
    (rest : List (Option Byte)) :
    steps ins.length (busRan l evs (ins.map some ++ rest) (ph 0) (w 0)) =
      .next (busRan l (evs ++ exchanges outs ins) rest (ph ins.length) (w ins.length)) := by
  induction ins generalizing outs ph w evs with
  | nil => simp [steps, exchanges]
  | cons b ins ih =>
    cases outs with
    | nil => cases hlen
    | cons o outs =>
      have following : ExchangeRow outs ins (fun i => ph (i + 1)) (fun i => w (i + 1)) :=
        fun i o' b' ho hb => h (i + 1) o' b' ho hb
      refine (steps_succ _ (h 0 o b rfl rfl l evs _)).trans ?_
      refine (ih following (Nat.succ.inj hlen) _).trans ?_
      simp only [exchanges, List.zipWith_cons_cons, List.append_assoc, List.singleton_append, List.length_cons]

/-! ### Polls -/

/-- Under the configuration `p` the phases `again k` are the bytes of a bounded poll (R441). -/
structure PollLoop (p : Params) (hit : Byte → Bool) (limit : Nat) (site : ErrSite) (again : Nat → Phase)
    (found : Byte → State → State) : Prop where
  body : ∀ (s : State) (k : Nat), s.cfg = p → s.phase = again k →
    seqStep s = poll hit limit site k again found s
  noFrame : ∀ (k : Nat) (f : FrameWord), again k ≠ .issue f

theorem pollToken_loop (p : Params) (c : Cmd) :
    PollLoop p isStartToken p.tokenPollLimit .tokenPoll (.pollToken c)
      (fun _ t => { t with phase := .readData c 0 }) where
  body s k hcfg hp := by simp only [seqStep, hp, hcfg]
  noFrame := nofun

theorem pollDresp_loop (p : Params) :
    PollLoop p isDataResponse p.drespPollLimit .drespPoll .pollDresp gotDataResponse where
  body s k hcfg hp := by simp only [seqStep, hp, hcfg]
  noFrame := nofun

theorem pollBusy_loop (p : Params) :
    PollLoop p isNotBusy p.busyPollLimit .busyPoll .pollBusy (fun _ => startEnd .cmd24 none) where
  body s k hcfg hp := by simp only [seqStep, hp, hcfg]
  noFrame := nofun

section Polls

variable {s : State} {hit : Byte → Bool} {limit : Nat} {site : ErrSite} {again : Nat → Phase}
  {found : Byte → State → State} {skipped : List Byte} {b : Byte} (hl : PollLoop s.cfg hit limit site again found)
  (h : ControllerOnly s) (l : Bool) (evs : List BusEvent) (rest : List (Option Byte))

include hl h

/-- The step of a poll's answered byte. -/
theorem PollLoop.step_eq (k : Nat) :
    step (busRan l evs (some b :: rest) (again k) s) =
      .next (afterPollByte hit limit site k again found b
        (busRan l (evs ++ [.xfer dummyByte (some b)]) rest (again k) s)) := by
  rw [(h.busRan l evs (some b :: rest) (again k)).step_eq (hl.noFrame k),
    hl.body (busRan l evs (some b :: rest) (again k) s) k rfl rfl, poll_answer rfl, ← exchange_answer rfl,
    exchange_busRan]

/-- Within the bound the bytes that do not match are skipped. -/
theorem PollLoop.steps_of_skipped (hmiss : ∀ b ∈ skipped, hit b = false) (hlen : skipped.length < limit) :
    steps skipped.length (busRan l evs (skipped.map some ++ rest) (again 1) s) =
      .next (busRan l (evs ++ reads skipped) rest (again (skipped.length + 1)) s) := by
  have row : ExchangeRow (List.replicate skipped.length dummyByte) skipped (fun i => again (i + 1)) (fun _ => s) := by
    intro i o b ho hb l evs rest
    obtain ⟨hi, -⟩ := List.getElem?_eq_some_iff.1 hb
    obtain rfl : o = dummyByte := List.eq_of_mem_replicate (List.mem_of_getElem? ho)
    have within : i + 1 < limit := by omega
    exact (step_of_miss (hl.step_eq h l evs rest (i + 1)) (hmiss b (List.mem_of_getElem? hb))).1 within
  rw [row.steps_eq List.length_replicate, exchanges_dummyByte]

/-- The first byte that matches ends the poll (R441). -/
theorem PollLoop.steps_of_match (hmiss : ∀ b ∈ skipped, hit b = false) (hlen : skipped.length < limit)
    (hb : hit b = true) :
    steps (skipped.length + 1) (busRan l evs ((skipped ++ [b]).map some ++ rest) (again 1) s) =
      .next (found b (busRan l (evs ++ reads (skipped ++ [b])) rest (again (skipped.length + 1)) s)) := by
  have skips := hl.steps_of_skipped h l evs (some b :: rest) hmiss hlen
  have matched := step_of_hit (hl.step_eq h l (evs ++ reads skipped) rest (skipped.length + 1)) hb
  rw [List.append_assoc] at matched
  rw [List.map_append, List.append_assoc, reads_append]
  exact (steps_add 1 skips).trans (steps_succ 0 matched)

/-- A poll without a match expires at its bound (R441). -/
theorem PollLoop.steps_of_expiry (hmiss : ∀ b ∈ skipped, hit b = false) (hlen : skipped.length + 1 = limit)
    (hb : hit b = false) :
    steps limit (busRan l evs ((skipped ++ [b]).map some ++ rest) (again 1) s) =
      .next (raise (.deviceNotResponding site)
        (busRan l (evs ++ reads (skipped ++ [b])) rest (again limit) s)) := by
  subst hlen
  have skips := hl.steps_of_skipped h l evs (some b :: rest) hmiss (Nat.lt_succ_self _)
  have expired := (step_of_miss (hl.step_eq h l (evs ++ reads skipped) rest (skipped.length + 1)) hb).2 le_rfl
  rw [List.append_assoc] at expired
  rw [List.map_append, List.append_assoc, reads_append]
  exact (steps_add 1 skips).trans (steps_succ 0 expired)

end Polls

end Sys2Proof.Machine
end

section
/-! SUPPORT. The bytes of a block on the bus: the write phase's exchanges, the judgement of the data-response token, and
the buffer that a data phase fills (spec/44_block_transfer.md R502, R503, R511 to R513). -/

namespace Sys2Proof.Machine

/-! ### The write phase -/

/-- The byte that the write phase sends at the position of `s`, and the position after it (R511). -/
inductive Sends (s : State) : Byte → Phase → Prop
  | token (at_ : s.phase = .sendToken) : Sends s dataStartToken (.sendData 0)
  | data (i : Nat) (at_ : s.phase = .sendData i) (more : i + 1 < bufSize) : Sends s (s.bufByte i) (.sendData (i + 1))
  | lastData (at_ : s.phase = .sendData 511) : Sends s (s.bufByte 511) .sendCrc0
  | crc0 (at_ : s.phase = .sendCrc0) : Sends s s.cfg.writeCrc0 .sendCrc1
  | crc1 (at_ : s.phase = .sendCrc1) : Sends s s.cfg.writeCrc1 (.pollDresp 1)

theorem Sends.noFrame {s : State} {o : Byte} {q : Phase} (h : Sends s o q) (f : FrameWord) : s.phase ≠ .issue f := by
  cases h with
  | token at_ | data _ at_ _ | lastData at_ | crc0 at_ | crc1 at_ => simp [at_]

/-- What the card answers in the write phase is discarded (R438, R511). -/
theorem Sends.seqStep_eq {s : State} {o b : Byte} {q : Phase} (h : Sends s o q) (hr : cardReply s = some b) :
    seqStep s = { exchange o s with phase := q } := by
  have body : seqStep s = sendByte o (fun t => { t with phase := q }) s := by
    cases h with
    | data i at_ more => simp only [seqStep, at_, more, if_true]
    | lastData at_ => simp only [seqStep, at_]; rfl
    | token at_ | crc0 at_ | crc1 at_ => simp only [seqStep, at_]
  rw [body, sendByte_answer hr]

/-- A byte of BUF that holds a value is sent as that value (R206). -/
theorem bufByte_eq {s : State} {i : Nat} {v : Byte} (h : s.byteAt (bufBase + i) = some v) : s.bufByte i = v := by
  rw [State.bufByte, State.readByte, h, Option.getD_some]

/-- The position of the write phase with its first `j` bytes sent (R511). -/
def writePhase : Nat → Phase
  | 0 => .sendToken
  | i + 1 =>
    if i < 512 then .sendData i else if i = 512 then .sendCrc0 else if i = 513 then .sendCrc1 else .pollDresp 1

/-- The bytes of the write phase, BUF holding `data` (R511). -/
def writeBytes (p : Params) (data : List Byte) : List Byte := [dataStartToken] ++ data ++ [p.writeCrc0, p.writeCrc1]

/-- Each position of the write phase sends its byte. -/
theorem sends_writeBytes {s : State} {data : List Byte} {j : Nat} {o : Byte} (hlen : data.length = 512)
    (hdata : ∀ i, i < 512 → s.byteAt (0x200 + i) = data[i]?) (ho : (writeBytes s.cfg data)[j]? = some o)
    (hp : s.phase = writePhase j) : Sends s o (writePhase (j + 1)) := by
  cases j with
  | zero =>
    obtain rfl := Option.some.inj ho
    exact .token hp
  | succ i =>
    replace ho : (data ++ [s.cfg.writeCrc0, s.cfg.writeCrc1])[i]? = some o := ho
    rcases Nat.lt_or_ge i 512 with hi | hi
    · rw [List.getElem?_append_left (hlen ▸ hi), ← hdata i hi] at ho
      rw [writePhase, if_pos hi] at hp
      obtain rfl := bufByte_eq ho
      rcases Nat.lt_or_ge (i + 1) 512 with hmore | hlast
      · rw [writePhase, if_pos hmore]
        exact .data i hp hmore
      · obtain rfl : i = 511 := by omega
        exact .lastData hp
    · rw [List.getElem?_append_right (hlen ▸ hi), hlen] at ho
      obtain ⟨k, rfl⟩ := Nat.exists_eq_add_of_le hi
      rw [Nat.add_sub_cancel_left] at ho
      match k with
      | 0 =>
        obtain rfl := Option.some.inj ho
        exact .crc0 hp
      | 1 =>
        obtain rfl := Option.some.inj ho
        exact .crc1 hp
      | k + 2 => simp at ho

/-- The write phase is a row of 515 exchanges (R511). -/
theorem write_row {s : State} {data sent : List Byte} (h : ControllerOnly s) (hlen : data.length = 512)
    (hdata : ∀ i, i < 512 → s.byteAt (0x200 + i) = data[i]?) :
    ExchangeRow (writeBytes s.cfg data) sent writePhase (fun _ => s) := by
  intro j o b ho _ l evs rest
  have sends : Sends (busRan l evs (some b :: rest) (writePhase j) s) o (writePhase (j + 1)) :=
    sends_writeBytes hlen hdata ho rfl
  rw [(h.busRan l evs (some b :: rest) (writePhase j)).step_eq sends.noFrame, sends.seqStep_eq rfl, exchange_busRan]
  rfl

/-! ### The data-response token -/

/-- DRESP takes the token (R512). -/
def responseStored (d : Byte) (s : State) : State := { s with dresp := d }

/-- An accepted write goes on to the busy wait, or to the deselect without it (R512, R513). -/
theorem gotDataResponse_accepted {d : Byte} (s : State) (hd : d &&& 0x1F = 0x05) :
    gotDataResponse d s = { responseStored d s with
      phase := if s.cfg.writeBusyWait then .pollBusy 1 else .deselect .cmd24 none } := by
  have accepted : isAccepted d = true := beq_iff_eq.2 hd
  simp only [gotDataResponse, accepted, if_true, startEnd, responseStored]
  split <;> rfl

theorem gotDataResponse_rejected {d : Byte} (s : State) (hd : d &&& 0x1F ≠ 0x05) :
    gotDataResponse d s = raise (.writeRejected d) (responseStored d s) := by
  have rejected : isAccepted d = false := beq_false_of_ne hd
  simp only [gotDataResponse, rejected, Bool.false_eq_true, if_false, responseStored]

/-- Raising an error stores no data-response token. -/
theorem raise_dresp (e : Error) (s : State) : (raise e s).dresp = s.dresp := by rw [raise_eq]

/-- The ERR_CAUSE of a rejected write, by the token's status (R602). -/
theorem rejectCause_code (d : Byte) :
    (rejectCause d).code = if d &&& 0x1F = 0x0B then 1#4 else if d &&& 0x1F = 0x0D then 2#4 else 15#4 := by
  unfold rejectCause
  split
  · rfl
  · split <;> rfl

/-! ### The buffer that a data phase fills -/

/-- Bytes stored at the addresses from `a` on. -/
def Memory.writeAll (m : Memory) (a : Nat) : List Byte → Memory
  | [] => m
  | b :: bs => Memory.writeAll (m.write a b) (a + 1) bs

theorem memory_read_writeAll_outside (m : Memory) {a x : Nat} {bs : List Byte} (h : x < a ∨ a + bs.length ≤ x) :
    (m.writeAll a bs).read x = m.read x := by
  induction bs generalizing m a with
  | nil => rfl
  | cons b bs ih =>
    rw [List.length_cons] at h
    rw [Memory.writeAll, ih _ (by omega), memory_read_write_other m b (by omega)]

theorem memory_read_writeAll_inside (m : Memory) {a i : Nat} {bs : List Byte} (h : i < bs.length) :
    (m.writeAll a bs).read (a + i) = bs[i]? := by
  induction bs generalizing m a i with
  | nil => cases h
  | cons b bs ih =>
    cases i with
    | zero => exact (memory_read_writeAll_outside _ (.inl (Nat.lt_succ_self a))).trans (memory_read_write_same m a b)
    | succ i =>
      rw [← Nat.succ_add_eq_add_succ]
      exact ih _ (Nat.lt_of_succ_lt_succ h)

theorem memory_writeAll_append_one (m : Memory) (a : Nat) (bs : List Byte) (b : Byte) :
    m.writeAll a (bs ++ [b]) = (m.writeAll a bs).write (a + bs.length) b := by
  induction bs generalizing m a with
  | nil => rfl
  | cons c bs ih =>
    rw [List.cons_append, Memory.writeAll, ih, List.length_cons, Nat.add_right_comm, Nat.add_assoc]
    rfl

/-- The data phase of `c` has stored the bytes `data` (R447). -/
def dataStored (c : Cmd) (data : List Byte) (s : State) : State :=
  { s with mem := s.mem.writeAll (dataBase c) data }

/-- The position of a data phase with its first `i` bytes stored (R447, R503). -/
def dataPhase (p : Params) (c : Cmd) : Nat → Phase
  | 0 => .readData c 0
  | i + 1 => phaseAfterData p c i

theorem dataPhase_inside {p : Params} {c : Cmd} {i : Nat} (h : i < dataSize c) : dataPhase p c i = .readData c i := by
  cases i with
  | zero => rfl
  | succ i => exact phaseAfterData_next h

/-- After the whole buffer the trailer is entered (R503). -/
theorem dataPhase_filled (c : Cmd) (l : Bool) (evs : List BusEvent) (rest : List (Option Byte)) (s : State) :
    busRan l evs rest (dataPhase s.cfg c (dataSize c)) s =
      enterLoop s.cfg.nReadTrailer (.trailer c 1) (startEnd c none) (busRan l evs rest .idle s) := by
  have size : dataSize c = dataSize c - 1 + 1 := by cases c <;> rfl
  rw [size, dataPhase, phaseAfterData_last size.symm, enterLoop]
  split <;> rfl

/-- A data phase is a row of exchanges of the dummy byte, each of which stores its answer (R447). -/
theorem data_row {s : State} {c : Cmd} {data : List Byte} (h : ControllerOnly s) (hlen : data.length = dataSize c) :
    ExchangeRow (List.replicate data.length dummyByte) data (dataPhase s.cfg c)
      (fun i => dataStored c (data.take i) s) := by
  intro i o b ho hb l evs rest
  obtain ⟨hi, -⟩ := List.getElem?_eq_some_iff.1 hb
  obtain rfl : o = dummyByte := List.eq_of_mem_replicate (List.mem_of_getElem? ho)
  have only : ControllerOnly (dataStored c (data.take i) s) := ⟨h.mark, h.turns, h.busy⟩
  have written : (dataStored c (data.take (i + 1)) s).mem =
      (dataStored c (data.take i) s).mem.write (dataBase c + i) b := by
    simp only [dataStored]
    rw [List.take_add_one, hb, Option.toList_some, memory_writeAll_append_one, List.length_take_of_le hi.le]
  rw [dataPhase_inside (hlen ▸ hi),
    (only.busRan l evs (some b :: rest) (.readData c i)).step_eq nofun]
  have body : seqStep (busRan l evs (some b :: rest) (.readData c i) (dataStored c (data.take i) s)) =
      spiXfer dummyByte (gotData c i)
        (busRan l evs (some b :: rest) (.readData c i) (dataStored c (data.take i) s)) := rfl
  rw [body, spiXfer_answer rfl, exchange_busRan, gotData_eq]
  simp only [State.writeByte, busRan, dataStored, dataPhase] at written ⊢
  rw [written]

end Sys2Proof.Machine
end

section
/-! SUPPORT. A whole transaction around any tail, and the tails of the block transfers
(spec/42_bus_transactions.md R432, spec/44_block_transfer.md R501 to R503, R511 to R513). -/

namespace Sys2Proof.Machine

/-- The tail of the transaction of `c`, `n` steps in which the card sends `ins` and the events `evs` are recorded, makes
`u` of the block `s` but for its position, its chip select and what bus events write; the end of the transaction is
next (R432). -/
structure TailRun (c : Cmd) (n : Nat) (ins : List Byte) (evs : List BusEvent) (s u : State) : Prop where
  run : ∀ (l : Bool) (before : List BusEvent) (rest : List (Option Byte)),
    steps n (busRan l before (ins.map some ++ rest) (tailPhase c) s) =
      .next (busRan l (before ++ evs) rest (.deselect c none) u)
  only : ControllerOnly u
  cfg : u.cfg = s.cfg

/-- A whole transaction (R432): its bus events are recorded, its tail run, and the lines after it run. -/
theorem TailRun.steps_of_txn {p : Params} {c : Cmd} {n : Nat} {ins pre fr post : List Byte} {evs : List BusEvent}
    {s u : State} {rest : List (Option Byte)} (tail : TailRun c n ins evs s u) (h : AtTxn p c s)
    (hd : Discarded p pre fr post) (hcard : s.card = (pre ++ fr ++ ins ++ post).map some ++ rest) :
    steps (txnSteps p n) s =
      .next (endTxn c none (busRan true (txnEvents (frameOf c s) pre fr evs post) rest (.deselect c none) u)) := by
  obtain ⟨only, rfl, hp⟩ := h
  obtain ⟨hpre, hfr, hpost⟩ := hd
  have hcard' : s.card = pre.map some ++ (fr.map some ++ (ins.map some ++ (post.map some ++ rest))) := by
    simpa only [List.map_append, List.append_assoc] using hcard
  have toTail := steps_to_tail only hp hpre hfr hcard'
  have ended (before : List BusEvent) := steps_of_end (post := post) (rest := rest)
    (tail.only.busRan false before (post.map some ++ rest) (.deselect c none)) rfl
    (hpost.trans (congrArg Params.nPostDummy tail.cfg.symm)) rfl
  rw [txnSteps, ← hpost, steps_add _ toTail, steps_add _ (tail.run ..), ended, busRan_busRan]
  simp only [txnEvents, List.append_assoc, List.cons_append, List.nil_append]
  rfl

theorem trailer_loop (p : Params) (c : Cmd) : DummyLoop p p.nReadTrailer (.trailer c) (startEnd c none) where
  body s k hcfg hp := by simp only [seqStep, hp, hcfg]
  noFrame := nofun
  position _ _ := rfl

/-- The tail of a block read (R501 to R503, R532): the bytes before the token are skipped, the data bytes stored, the
trailer bytes discarded. -/
theorem read_tail {s : State} {c : Cmd} {skipped data trail : List Byte} (h : ControllerOnly s)
    (hc : c = .cmd17 ∨ c = .cmd9) (hskip : skipped.length < s.cfg.tokenPollLimit) (hmiss : ∀ b ∈ skipped, b ≠ 0xFE)
    (hdata : data.length = dataSize c) (htrail : trail.length = s.cfg.nReadTrailer) :
    TailRun c (skipped.length + 1 + (dataSize c + s.cfg.nReadTrailer)) (skipped ++ [0xFE] ++ data ++ trail)
      (reads (skipped ++ [0xFE] ++ data ++ trail)) s (dataStored c data s) := by
  have only : ControllerOnly (dataStored c data s) := ⟨h.mark, h.turns, h.busy⟩
  refine ⟨fun l before rest => ?_, only, rfl⟩
  have token := (pollToken_loop s.cfg c).steps_of_match (b := 0xFE) h l before
    (data.map some ++ (trail.map some ++ rest)) (fun b hb => beq_false_of_ne (hmiss b hb)) hskip rfl
  have filled := (data_row h hdata).steps_eq List.length_replicate l (before ++ reads (skipped ++ [0xFE]))
    (trail.map some ++ rest)
  rw [exchanges_dummyByte, List.take_length, hdata] at filled
  have trailer := (trailer_loop s.cfg c).steps_eq (rest := rest)
    (s := busRan l (before ++ reads (skipped ++ [0xFE]) ++ reads data) (trail.map some ++ rest) .idle
      (dataStored c data s)) (only.busRan ..) rfl htrail
  rw [bytesRead_busRan] at trailer
  have start : tailPhase c = .pollToken c 1 := by rcases hc with rfl | rfl <;> rfl
  rw [start, List.map_append, List.map_append, List.append_assoc, List.append_assoc, steps_add _ token]
  refine (steps_add _ filled).trans ?_
  refine (congrArg (steps _) (dataPhase_filled c l _ _ (dataStored c data s))).trans (trailer.trans ?_)
  simp only [reads_append, List.append_assoc]
  rfl

/-- The bytes read in the busy wait, where it is configured: those that say busy and the one that ends it (R513). -/
def busyWaitBytes (p : Params) (busyBytes : List Byte) (nb : Byte) : List Byte :=
  if p.writeBusyWait then busyBytes ++ [nb] else []

theorem steps_of_busyWait {s : State} {busyBytes : List Byte} {nb : Byte} (h : ControllerOnly s)
    (hlen : busyBytes.length < s.cfg.busyPollLimit) (hbusy : ∀ b ∈ busyBytes, b = 0x00) (hnb : nb ≠ 0x00)
    (l : Bool) (evs : List BusEvent) (rest : List (Option Byte)) :
    steps (busyWaitBytes s.cfg busyBytes nb).length
        (busRan l evs ((busyWaitBytes s.cfg busyBytes nb).map some ++ rest)
          (if s.cfg.writeBusyWait then .pollBusy 1 else .deselect .cmd24 none) s) =
      .next (busRan l (evs ++ reads (busyWaitBytes s.cfg busyBytes nb)) rest (.deselect .cmd24 none) s) := by
  unfold busyWaitBytes
  cases s.cfg.writeBusyWait with
  | false => simp [steps, reads]
  | true =>
    have waits := (pollBusy_loop s.cfg).steps_of_match (b := nb) h l evs rest
      (fun b hb => bne_eq_false_iff_eq.2 (hbusy b hb)) hlen (bne_iff_ne.2 hnb)
    rw [← List.length_singleton (a := nb), ← List.length_append] at waits
    exact waits

/-- The tail of an accepted block write (R511 to R513): the token, BUF and the CRC bytes are sent, the response token
polled and stored, the busy period waited for. -/
theorem write_tail {s : State} {sent noDresp busyBytes data : List Byte} {d nb : Byte} (h : ControllerOnly s)
    (hsent : sent.length = 515) (hlen : data.length = 512)
    (hdata : ∀ i, i < 512 → s.byteAt (0x200 + i) = data[i]?)
    (hno : noDresp.length < s.cfg.drespPollLimit) (hmiss : ∀ b ∈ noDresp, b &&& 0x11 ≠ 0x01)
    (hd : d &&& 0x11 = 0x01) (accepted : d &&& 0x1F = 0x05)
    (hwait : busyBytes.length < s.cfg.busyPollLimit) (hbusy : ∀ b ∈ busyBytes, b = 0x00) (hnb : nb ≠ 0x00) :
    let busyRead := busyWaitBytes s.cfg busyBytes nb
    TailRun .cmd24 (515 + (noDresp.length + 1 + busyRead.length)) (sent ++ noDresp ++ [d] ++ busyRead)
      (exchanges (writeBytes s.cfg data) sent ++ reads (noDresp ++ [d] ++ busyRead)) s (responseStored d s) := by
  intro busyRead
  have only : ControllerOnly (responseStored d s) := ⟨h.mark, h.turns, h.busy⟩
  refine ⟨fun l before rest => ?_, only, rfl⟩
  have row : ExchangeRow (writeBytes s.cfg data) sent writePhase (fun _ => s) := write_row h hlen hdata
  have block := row.steps_eq (by simp [writeBytes, hlen, hsent]) l before
    ((noDresp ++ [d]).map some ++ (busyRead.map some ++ rest))
  rw [hsent] at block
  have response := (pollDresp_loop s.cfg).steps_of_match (b := d) h l
    (before ++ exchanges (writeBytes s.cfg data) sent) (busyRead.map some ++ rest)
    (fun b hb => beq_false_of_ne (hmiss b hb)) hno (beq_iff_eq.2 hd)
  rw [gotDataResponse_accepted _ accepted] at response
  have waited := steps_of_busyWait only hwait hbusy hnb l
    (before ++ exchanges (writeBytes s.cfg data) sent ++ reads (noDresp ++ [d])) rest
  rw [List.append_assoc sent, List.append_assoc sent, List.map_append, List.map_append, List.append_assoc,
    List.append_assoc]
  refine (steps_add _ block).trans ((steps_add _ response).trans (waited.trans ?_))
  simp only [reads_append, List.append_assoc]
  rfl

/-! ### Acceptance -/

/-- A ready, idle block accepts a request that needs it ready (R611). -/
theorem present_ready {op : Byte} {start : State → State} {s : State} (idle : s.busy = false) (ready : s.ready = true) :
    present op true start s = start (accept op s) := by
  simp only [present, idle, ready, Bool.false_eq_true, if_false, if_true]

/-- A ready, idle block accepts a READ_BLOCK, and its transaction starts (R501, R611). -/
theorem readBlock_starts {s : State} (mark : s.refusalMark = false) (idle : s.busy = false) (ready : s.ready = true)
    (turns : s.turns = []) :
    exec .readBlock s = .next (startReadBlock (accept opReadBlock s)) ∧
    AtTxn s.cfg .cmd17 (startReadBlock (accept opReadBlock s)) :=
  ⟨congrArg _ (present_ready idle ready), ⟨mark, turns, rfl⟩, rfl, rfl⟩

/-- A ready, idle block accepts a WRITE_BLOCK, and its transaction starts (R511, R611). -/
theorem writeBlock_starts {s : State} (mark : s.refusalMark = false) (idle : s.busy = false) (ready : s.ready = true)
    (turns : s.turns = []) :
    exec .writeBlock s = .next (startWriteBlock (accept opWriteBlock s)) ∧
    AtTxn s.cfg .cmd24 (startWriteBlock (accept opWriteBlock s)) :=
  ⟨congrArg _ (present_ready idle ready), ⟨mark, turns, rfl⟩, rfl, rfl⟩

/-! ### The end of a failed request -/

/-- The step of the error exit (R612): the card is deselected, and the request ends. -/
theorem step_of_errorExit {s : State} (h : ControllerOnly s) (hp : s.phase = .errorExit) :
    step s = .next (leaveError (csSet true s)) := by
  rw [h.step_eq (by simp [hp])]
  simp only [seqStep, hp]

/-- A poll without a match, the card selected: it expires at its bound, and the error exit ends the request (R441,
R612). -/
theorem PollLoop.steps_of_failure {s : State} {hit : Byte → Bool} {limit : Nat} {site : ErrSite}
    {again : Nat → Phase} {found : Byte → State → State} {skipped : List Byte} {b : Byte}
    (hl : PollLoop s.cfg hit limit site again found) (h : ControllerOnly s) (evs : List BusEvent)
    (rest : List (Option Byte)) (hmiss : ∀ b ∈ skipped, hit b = false) (hlen : skipped.length + 1 = limit)
    (hb : hit b = false) :
    steps (limit + 1) (busRan false evs ((skipped ++ [b]).map some ++ rest) (again 1) s) =
      .next (leaveError (busRan true (evs ++ reads (skipped ++ [b]) ++ [.cs true]) rest .errorExit
        (recordError (.deviceNotResponding site) s))) := by
  have expired := hl.steps_of_expiry h false evs rest hmiss hlen hb
  have recorded : ControllerOnly (recordError (.deviceNotResponding site) s) := ⟨h.mark, h.turns, h.busy⟩
  rw [raise_selected rfl] at expired
  have exited := step_of_errorExit (recorded.busRan false (evs ++ reads (skipped ++ [b])) rest .errorExit) rfl
  rw [csSet_busRan] at exited
  exact (steps_add 1 expired).trans (steps_succ 0 exited)

/-- After a failed READ_BLOCK no byte of BUF holds a value (R613). -/
theorem leaveError_readBlock_byteAt {s : State} {i : Nat} (hop : s.opLat = opReadBlock) (hi : i < 512) :
    (leaveError s).byteAt (0x200 + i) = none := by
  have emptied : (leaveError s).mem = s.mem.forget bufBase bufSize := by
    rw [leaveError_mem, forgetFilled_mem, if_pos hop]
  rw [State.byteAt, emptied]
  exact memory_read_forget_inside _ (Nat.le_add_right ..) (Nat.add_lt_add_left hi _)

end Sys2Proof.Machine
end

section
/-! The statements of the block transfer file (spec/44_block_transfer.md). -/

namespace Sys2Proof.Proofs

open Sys2Proof Sys2Proof.Machine

/-- Settles O23: a token of the pattern ends the poll and is judged, any other byte is skipped or lets the poll
expire. -/
theorem dataResponseDecidesTheWrite : Obligations.DataResponseDecidesTheWrite := by
  unfold Obligations.DataResponseDecidesTheWrite
  intro s d k mark turn phase reply t
  have polled := step_of_pollDresp mark turn reply phase
  have found (hd : d &&& 0x11 = 0x01) := step_of_hit polled (beq_iff_eq.2 hd)
  refine ⟨fun hd accepted wait => ?_, fun hd accepted wait => ?_, fun hd rejected => ?_, fun hd => ?_⟩
  · have waits : (byteRead d (takeTurn s)).cfg.writeBusyWait = true := wait
    rw [found hd, gotDataResponse_accepted _ accepted, if_pos waits]
    rfl
  · have ends : ¬ (byteRead d (takeTurn s)).cfg.writeBusyWait = true := Bool.eq_false_iff.1 wait
    rw [found hd, gotDataResponse_accepted _ accepted, if_neg ends]
    rfl
  · refine ⟨?_, raise_dresp _ _, fun hop => ?_⟩
    · rw [found hd, gotDataResponse_rejected _ rejected]
      rfl
    · have outside : t.opLat ≠ opInit := fun h => absurd (hop.symm.trans h) (by decide)
      obtain ⟨err, cause, -⟩ := raise_errorFields (.writeRejected d) t
      rw [err, cause, if_neg outside, if_neg outside]
      exact ⟨rfl, rejectCause_code d⟩
  · obtain ⟨within, expired⟩ := step_of_miss polled (beq_false_of_ne hd)
    rcases Nat.lt_or_ge k s.cfg.drespPollLimit with hk | hk
    · exact ⟨_, within hk, rfl⟩
    · exact ⟨_, expired hk, raise_dresp _ _⟩

/-- Settles O33: each position of the write phase is one of `Sends`. -/
theorem writePhaseSendsTokenDataCrc : Obligations.WritePhaseSendsTokenDataCrc := by
  unfold Obligations.WritePhaseSendsTokenDataCrc
  intro s b mark turn reply sent
  have sends {o : Byte} {q : Phase} (h : Sends (takeTurn s) o q) : sent o q := by
    have hissue : ∀ f, s.phase ≠ .issue f := h.noFrame
    have reply' : cardReply (takeTurn s) = some b := reply
    show step s = _
    rw [step_of_seqStep mark turn hissue, h.seqStep_eq reply', exchange, reply']
    rfl
  refine ⟨fun hp => sends (.token hp), fun i hp hi => ?_, fun hp => sends (.crc0 hp), fun hp => sends (.crc1 hp)⟩
  have byte : sent ((takeTurn s).bufByte i) (if i = 511 then .sendCrc0 else .sendData (i + 1)) := by
    split
    · next last =>
      subst last
      exact sends (.lastData hp)
    · next more => exact sends (.data i hp (Nat.succ_lt_succ (by omega)))
  refine ⟨fun v hv => ?_, fun _ => ⟨_, byte⟩⟩
  rwa [bufByte_eq (s := takeTurn s) hv] at byte

/-- Settles O29: the transaction of READ_SINGLE_BLOCK around `read_tail`. -/
theorem readBlockFillsBuf : Obligations.ReadBlockFillsBuf := by
  unfold Obligations.ReadBlockFillsBuf
  intro s pre fr skipped data trail post rest mark idle ready turns hpre hfr hdata htrail hpost hskip hmiss hcard
  obtain ⟨accepted, start⟩ := readBlock_starts mark idle ready turns
  have tail := read_tail start.only (.inl rfl) hskip hmiss hdata htrail
  have run := tail.steps_of_txn (pre := pre) (fr := fr) (post := post) (rest := rest) start ⟨hpre, hfr, hpost⟩
    (hcard.trans (by simp only [List.append_assoc]))
  have count : 2 + s.cfg.nPreDummy + 6 + (skipped.length + 1) + 512 + s.cfg.nReadTrailer + s.cfg.nPostDummy =
      txnSteps s.cfg (skipped.length + 1 + (512 + s.cfg.nReadTrailer)) := by
    simp only [txnSteps]
    ring
  have filled (i : Nat) (hi : i < 512) := memory_read_writeAll_inside s.mem (a := 0x200) (bs := data) (hdata ▸ hi)
  have kept (a : Nat) (ha : a < 0x200 ∨ 0x400 ≤ a) :=
    memory_read_writeAll_outside s.mem (a := 0x200) (bs := data) (x := a) (by omega)
  -- Every other field, the trace included, is read off the last state of the run.
  exact ⟨_, _, accepted, (congrArg (steps · _) count).trans run, rfl, filled, kept, rfl, rfl, ready, rfl, rfl, rfl, rfl,
    rfl, rfl, rfl, rfl, rfl, rfl, rfl⟩

/-- Settles O30: the transaction of WRITE_SINGLE_BLOCK around `write_tail`. -/
theorem writeBlockSendsBuf : Obligations.WriteBlockSendsBuf := by
  unfold Obligations.WriteBlockSendsBuf
  intro s pre fr sent noDresp busyBytes post data d nb rest mark idle ready turns hpre hfr hsent hpost hlen hdata hno
    hmiss hd hacc hwait hbusy hnb busyRead hcard
  obtain ⟨accepted, start⟩ := writeBlock_starts mark idle ready turns
  have tail := write_tail start.only hsent hlen hdata hno hmiss hd hacc hwait hbusy hnb
  have run := tail.steps_of_txn (pre := pre) (fr := fr) (post := post) (rest := rest) start ⟨hpre, hfr, hpost⟩
    (hcard.trans (by simp only [List.append_assoc]; rfl))
  have count : 2 + s.cfg.nPreDummy + 6 + 1 + 512 + 2 + (noDresp.length + 1) + busyRead.length + s.cfg.nPostDummy =
      txnSteps s.cfg (515 + (noDresp.length + 1 + busyRead.length)) := by
    simp only [txnSteps]
    ring
  -- Every field, the trace included, is read off the last state of the run.
  exact ⟨_, _, accepted, (congrArg (steps · _) count).trans run, rfl, rfl, fun _ => rfl, rfl, rfl, rfl, rfl, ready, rfl,
    rfl, rfl, rfl, rfl, rfl, rfl, rfl, rfl⟩

/-- Settles O34: no polled byte is the token, so the poll expires and the error exit follows. -/
theorem silentCardEndsTheRead : Obligations.SilentCardEndsTheRead := by
  unfold Obligations.SilentCardEndsTheRead
  intro s rest mark idle ready turns wf hcard
  obtain ⟨accepted, start⟩ := readBlock_starts mark idle ready turns
  obtain ⟨n, hn⟩ : ∃ n, s.cfg.tokenPollLimit = n + 1 := by
    simp only [Params.wf, Bool.and_eq_true, decide_eq_true_eq] at wf
    exact Nat.exists_eq_add_of_le' (by omega)
  have card : s.card = (List.replicate s.cfg.nPreDummy (0xFF : Byte)).map some ++
      ((List.replicate 6 (0xFF : Byte)).map some ++ ((List.replicate n (0xFF : Byte) ++ [0xFF]).map some ++ rest)) := by
    rw [hcard, hn, ← List.replicate_succ', List.map_replicate, List.map_replicate, List.map_replicate,
      List.replicate_add, List.replicate_add, List.append_assoc, List.append_assoc]
  have toTail := steps_to_tail start.only start.phase List.length_replicate List.length_replicate card
  have silent : ∀ b ∈ List.replicate n (0xFF : Byte), isStartToken b = false :=
    fun b hb => List.eq_of_mem_replicate hb ▸ rfl
  have failed (before : List BusEvent) := (pollToken_loop s.cfg .cmd17).steps_of_failure
    (s := startReadBlock (accept opReadBlock s)) (b := 0xFF) start.only before rest silent
    ((congrArg (· + 1) List.length_replicate).trans hn.symm) rfl
  have run := (steps_add _ toTail).trans (failed _)
  rw [← List.replicate_succ', ← hn] at run
  have count : 2 + s.cfg.nPreDummy + 6 + s.cfg.tokenPollLimit =
      s.cfg.nPreDummy + 1 + 6 + (s.cfg.tokenPollLimit + 1) := by
    ring
  refine ⟨_, _, accepted, (congrArg (steps · _) count).trans run, ?_, ?_⟩
  · rw [leaveError_trace]
    simp only [List.append_assoc]
    rfl
  · refine ⟨rfl, rfl, rfl, rfl, rfl, ready, if_pos ready, rfl, rfl, fun i hi => ?_⟩
    exact leaveError_readBlock_byteAt rfl hi

end Sys2Proof.Proofs
end

section
/-! SUPPORT. The capacity functions as numbers, and the READ_CSD transaction of its two requests from the acceptance to
the end (spec/45_register_query.md R531 to R534, R541 to R543). -/

namespace Sys2Proof.Machine

/-! ### The capacity -/

/-- Three bytes, the first one on top, as a number. -/
theorem toNat_append_three (b7 b8 b9 : Byte) :
    (b7 ++ b8 ++ b9).toNat = b7.toNat * 65536 + b8.toNat * 256 + b9.toNat := by
  rw [BitVec.toNat_append, BitVec.toNat_append, ← Nat.shiftLeft_add_eq_or_of_lt b8.isLt,
    ← Nat.shiftLeft_add_eq_or_of_lt b9.isLt, Nat.shiftLeft_eq, Nat.shiftLeft_eq]
  ring

/-- CSIZE is the 22 low bits of the three bytes (R542). -/
theorem cSizeOf_eq (b7 b8 b9 : Byte) : cSizeOf b7 b8 b9 = (b7 ++ b8 ++ b9).setWidth 22 := by
  have raw : (b7.setWidth 32 <<< 16) ||| (b8.setWidth 32 <<< 8) ||| b9.setWidth 32 = (b7 ++ b8 ++ b9).setWidth 32 := by
    rw [← shiftIn_setWidth, ← shiftIn_setWidth, shiftIn, shiftIn, BitVec.shiftLeft_or_distrib,
      ← BitVec.shiftLeft_add]
  apply BitVec.eq_of_toNat_eq
  have mask : (0x3FFFFF : Word).toNat = 2 ^ 22 - 1 := rfl
  simp only [cSizeOf, raw, BitVec.toNat_setWidth, BitVec.toNat_and, mask, Nat.and_two_pow_sub_one_eq_mod]
  omega

theorem cSizeOf_toNat (b7 b8 b9 : Byte) :
    (cSizeOf b7 b8 b9).toNat = (b7.toNat % 64) * 65536 + b8.toNat * 256 + b9.toNat := by
  rw [cSizeOf_eq, BitVec.toNat_setWidth, toNat_append_three]
  omega

/-- The product fits in 32 bits (R543). -/
theorem capKibOf_toNat (c : BitVec 22) : (capKibOf c).toNat = (c.toNat + 1) * 512 := by
  have small := c.isLt
  simp only [capKibOf, BitVec.toNat_mul, BitVec.toNat_add, BitVec.toNat_setWidth, BitVec.ofNat_eq_ofNat,
    BitVec.toNat_ofNat]
  omega

/-! ### Acceptance and end -/

/-- A READ_CSD or GET_CAPACITY of opcode `op` before its first bus event, CAP_VALID being `cap` (R531, R541). -/
def csdStarted (op : Byte) (cap : Bool) (s : State) : State :=
  startTxn .cmd9 { accept op s with csdValid := false, capValid := cap, seqState := .xferReadCsd }

/-- A ready, idle block accepts either request, and they differ in the opcode and in CAP_VALID (R531, R541, R611). -/
theorem csdRequest_starts {i : Instr} {s : State} (hi : i = .readCsd ∨ i = .getCapacity) (idle : s.busy = false)
    (ready : s.ready = true) :
    ∃ op cap, exec i s = .next (csdStarted op cap s) ∧ (i = .readCsd → op = opReadCsd ∧ cap = s.capValid) ∧
      (i = .getCapacity → op = opGetCapacity) := by
  rcases hi with rfl | rfl
  · exact ⟨_, _, congrArg _ (present_ready idle ready), fun _ => ⟨rfl, rfl⟩, nofun⟩
  · exact ⟨_, _, congrArg _ (present_ready idle ready), nofun, fun _ => rfl⟩

/-- The end of either request, with what then stands in the capacity registers and in CAP_VALID (R531, R541). -/
def csdEnded (size : BitVec 22) (kib : Word) (cap : Bool) (s : State) : State :=
  complete { s with csdValid := true, csize := size, capKib := kib, capValid := cap }

/-- GET_CAPACITY computes the capacity from CSD (R541). -/
theorem afterCsd_of_getCapacity {s : State} (h : s.opLat = opGetCapacity) :
    let size := cSizeOf (s.csdByte 7) (s.csdByte 8) (s.csdByte 9)
    afterCsd s = csdEnded size (capKibOf size) true s :=
  if_pos h

/-- A request other than GET_CAPACITY, which is READ_CSD, leaves the capacity alone (R531). -/
theorem afterCsd_of_notGetCapacity {s : State} (h : s.opLat ≠ opGetCapacity) :
    afterCsd s = csdEnded s.csize s.capKib s.capValid s :=
  if_neg h

/-- Whichever request it ends, the last step differs in the capacity registers and in CAP_VALID only. -/
theorem afterCsd_eq (s : State) :
    afterCsd s = csdEnded (afterCsd s).csize (afterCsd s).capKib (afterCsd s).capValid s := by
  by_cases h : s.opLat = opGetCapacity
  · rw [afterCsd_of_getCapacity h]
    rfl
  · rw [afterCsd_of_notGetCapacity h]
    rfl

/-! ### The transaction -/

/-- The block `s` after the bus events `evs` of a READ_CSD transaction whose data phase stored `data` (R432, R532). -/
def csdRead (evs : List BusEvent) (data : List Byte) (rest : List (Option Byte)) (s : State) : State :=
  busRan true evs rest (.deselect .cmd9 none) (dataStored .cmd9 data s)

/-- The controller reads from CSD what the card sent (R532, R542). -/
theorem csdByte_csdRead {evs : List BusEvent} {data : List Byte} {rest : List (Option Byte)} {s : State} {j : Nat}
    (hj : j < data.length) : data[j]? = some ((csdRead evs data rest s).csdByte j) := by
  have stored : (csdRead evs data rest s).byteAt (csdBase + j) = data[j]? := memory_read_writeAll_inside s.mem hj
  rw [State.csdByte, State.readByte, stored, List.getElem?_eq_getElem hj, Option.getD_some]

/-- The transaction of READ_CSD (R531, R532): its bus events are recorded, CSD filled, and the request's last lines
run. -/
theorem steps_of_csdTxn {s : State} {pre fr skipped data trail post : List Byte} {rest : List (Option Byte)}
    (h : AtTxn s.cfg .cmd9 s) (hd : Discarded s.cfg pre fr post) (hdata : data.length = 16)
    (htrail : trail.length = s.cfg.nReadTrailer) (hskip : skipped.length < s.cfg.tokenPollLimit)
    (hmiss : ∀ b ∈ skipped, b ≠ 0xFE)
    (hcard : s.card = (pre ++ fr ++ skipped ++ [0xFE] ++ data ++ trail ++ post).map some ++ rest) :
    steps (2 + s.cfg.nPreDummy + 6 + (skipped.length + 1) + 16 + s.cfg.nReadTrailer + s.cfg.nPostDummy) s =
      .next (afterCsd (csdRead (txnEvents (assembleFrame s.cfg.frameCrc 9 0) pre fr
        (reads (skipped ++ [0xFE] ++ data ++ trail)) post) data rest s)) := by
  have tail := read_tail h.only (.inr rfl) hskip hmiss hdata htrail
  have count : 2 + s.cfg.nPreDummy + 6 + (skipped.length + 1) + 16 + s.cfg.nReadTrailer + s.cfg.nPostDummy =
      txnSteps s.cfg (skipped.length + 1 + (16 + s.cfg.nReadTrailer)) := by
    simp only [txnSteps]
    ring
  rw [count]
  exact tail.steps_of_txn h hd (hcard.trans (by simp only [List.append_assoc]))

end Sys2Proof.Machine
end

section
/-! The statements of the register query file (spec/45_register_query.md). -/

namespace Sys2Proof.Proofs

open Sys2Proof Sys2Proof.Machine

/-- Settles O35: three bytes as a number, cut to 22 bits, and a product that fits in 32 bits. -/
theorem capacityArithmeticIsExact : Obligations.CapacityArithmeticIsExact := by
  unfold Obligations.CapacityArithmeticIsExact
  exact ⟨cSizeOf_toNat, capKibOf_toNat⟩

/-- Settles O31: both requests run the transaction of `steps_of_csdTxn`, and `afterCsd` tells their ends apart. -/
theorem csdRequestsFillCsd : Obligations.CsdRequestsFillCsd := by
  unfold Obligations.CsdRequestsFillCsd
  intro s pre fr skipped data trail post rest i hi mark idle ready turns hpre hfr hdata htrail hpost hskip hmiss hcard
  obtain ⟨op, cap, accepted, readCsd, getCapacity⟩ := csdRequest_starts hi idle ready
  have start : AtTxn s.cfg .cmd9 (csdStarted op cap s) := ⟨⟨mark, turns, rfl⟩, rfl, rfl⟩
  have run := steps_of_csdTxn (s := csdStarted op cap s) start ⟨hpre, hfr, hpost⟩ hdata htrail hskip hmiss hcard
  rw [afterCsd_eq] at run
  have filled (j : Nat) (hj : j < 16) := memory_read_writeAll_inside s.mem (a := 0x100) (bs := data) (hdata ▸ hj)
  have kept (a : Nat) (ha : a < 0x100 ∨ 0x110 ≤ a) :=
    memory_read_writeAll_outside s.mem (a := 0x100) (bs := data) (x := a) (by omega)
  -- Every field but those of the capacity is read off the last state of the run.
  refine ⟨_, _, accepted, run, rfl, filled, kept, rfl, rfl, ready, rfl, rfl, rfl, rfl, rfl, rfl, rfl, rfl, rfl, rfl,
    fun h => ?_, fun h => ?_⟩
  · obtain ⟨rfl, rfl⟩ := readCsd h
    have other : opReadCsd ≠ opGetCapacity := by decide
    rw [afterCsd_of_notGetCapacity (s := csdRead _ data rest (csdStarted opReadCsd s.capValid s)) other]
    exact ⟨rfl, rfl, rfl⟩
  · obtain rfl := getCapacity h
    rw [afterCsd_of_getCapacity rfl]
    exact ⟨rfl, _, _, _, csdByte_csdRead (by omega), csdByte_csdRead (by omega), csdByte_csdRead (by omega),
      cSizeOf_toNat .., capKibOf_toNat _⟩

end Sys2Proof.Proofs
end

section
/-! SUPPORT. A failed exchange, the error exit's own step, and how a failed request leaves the buffers
(spec/60_exceptions.md R604, R612, R613, R615). -/

namespace Sys2Proof.Machine

/-! ### A failed exchange -/

/-- In every phase of the sequencer whose bus event is an exchange, a transport failure raises BusError in the step of
the exchange (R604). -/
theorem seqStep_failure {s : State} (hx : exchangePhase s.phase) (hissue : ∀ f, s.phase ≠ .issue f)
    (hr : cardReply s = none) : seqStep s = raise .busError (exchange (exchangedByte s) s) := by
  cases hp : s.phase with
  | issue f => exact absurd hp (hissue f)
  | idle | clkSlow | preambleCs | select | deselect | clkFast | errorExit =>
    rw [hp] at hx
    exact hx.elim
  | _ =>
    simp only [seqStep, exchangedByte, hp]
    exact spiXfer_failure hr

/-- A frame that decodes and fails on its first byte raises BusError there (R604). -/
theorem runFrame_failure {s : State} {f : FrameWord} {i : Instr} (hd : decodeFrame f = .ok i)
    (hr : cardReply s = none) : runFrame f s = .next (raise .busError (exchange (frameByte f 0) s)) := by
  obtain ⟨c, a, rfl⟩ := decodeFrame_ok hd
  rw [runFrame, hd]
  show exec (c.instr a) s = _
  rw [exec_frame, sendFrame, sendByte_failure hr, decodeFrame_firstByte s.cfg.frameCrc hd]

/-- The controller's move at an assembled frame runs it (R401). -/
theorem advance_of_issue {s : State} {f : FrameWord} (hw : whoMoves s = .controller) (hp : s.phase = .issue f) :
    advance s = runFrame f (takeTurn s) := by
  have hmove : controllerMove (takeTurn s) = .frame f (takeTurn s) := by
    simp only [controllerMove, takeTurn_phase, hp]
  simp only [advance, hw, controllerTurn, hmove]

/-- The controller's move at an exchange that fails, whatever the phase and whatever the run has done before. -/
theorem advance_of_failure {s : State} (hw : whoMoves s = .controller) (hx : exchangePhase s.phase)
    (hr : cardReply s = none) :
    advance s = .next (raise .busError (exchange (exchangedByte s) (takeTurn s))) := by
  by_cases hf : ∃ f, s.phase = .issue f
  · obtain ⟨f, hp⟩ := hf
    rw [hp] at hx
    obtain ⟨i, hd⟩ := hx
    have hbyte : exchangedByte s = frameByte f 0 := by simp only [exchangedByte, hp]
    rw [advance_of_issue hw hp, hbyte]
    exact runFrame_failure hd hr
  · have hissue (f : FrameWord) : s.phase ≠ .issue f := fun hp => hf ⟨f, hp⟩
    rw [advance_of_seqStep hw hissue, seqStep_failure (s := takeTurn s) hx hissue hr]
    rfl

/-! ### The error exit's own step -/

/-- The controller's move at the error exit (R612). -/
theorem advance_of_errorExit {s : State} (hw : whoMoves s = .controller) (hp : s.phase = .errorExit) :
    advance s = .next (leaveError (csSet true (takeTurn s))) := by
  rw [advance_of_seqStep hw (by simp [hp])]
  simp only [seqStep, takeTurn_phase, hp]

/-- The error exit writes STATE, BUSY and the phase, and may take values from a buffer (R612, R613). -/
theorem leaveError_eq (s : State) : leaveError s = { s with
    seqState := if s.ready then .ready else .uninit, busy := false, phase := .idle
    mem := (forgetFilled s).mem } := by
  rw [leaveError, forgetFilled_eq]

/-! ### The buffers after a failed request -/

/-- Which bytes lose their values depends on `op_lat` alone (R613). -/
theorem forgetFilled_mem_congr {s t : State} (hop : t.opLat = s.opLat) (hm : t.mem = s.mem) :
    (forgetFilled t).mem = (forgetFilled s).mem := by
  rw [forgetFilled_mem, forgetFilled_mem, hop, hm]

/-- An error raised with the card deselected empties the failed request's buffer in the same step (R612, R613). -/
theorem raise_deselected_mem {e : Error} {s : State} (h : s.csN = true) :
    (raise e s).mem = (forgetFilled s).mem := by
  rw [raise_deselected h, leaveError_mem]
  exact forgetFilled_mem_congr rfl rfl

/-- An error that ends a running request is raised with the card deselected (R612). -/
theorem raise_ending_mem {e : Error} {s : State} (ht : (raise e s).busy = false) (hb : s.busy = true) :
    (raise e s).mem = (forgetFilled s).mem := by
  cases h : s.csN with
  | true => exact raise_deselected_mem h
  | false =>
    rw [raise_selected h] at ht
    exact nomatch hb.symm.trans ht

/-- A running request that ends with an error, recorded in this step or before the error exit, ends by emptying the
buffer it was filling (R613). -/
theorem follows_failed_mem {s t : State} (h : Follows s t) (hb : s.busy = true) (ht : t.busy = false)
    (he : t.err ≠ .none) (hs : s.phase ≠ .errorExit → s.err = .none) : t.mem = (forgetFilled s).mem := by
  cases h with
  | raises e => exact raise_ending_mem ht hb
  | rejected k d => exact (raise_ending_mem ht hb).trans (forgetFilled_mem_congr rfl rfl)
  | leaves => exact leaveError_mem s
  | clockRaised hp => exact absurd (hs (by simp [hp])) he
  | ended c r t hp ends =>
    have running : s.err = .none := hs (by rcases hp with hp | ⟨k, hp⟩ <;> simp [hp])
    cases ends with
    | fails e v => exact (raise_ending_mem ht hb).trans (forgetFilled_mem_congr rfl rfl)
    | goesOn | counts | raisesClock => exact nomatch hb.symm.trans ht
    | initialized | blockWritten | blockRead | csdRead | capacityRead => exact absurd running he
  | goesTo | tookR1 | tookR7 | tookOcr | tookResponse | stored => exact nomatch hb.symm.trans ht

/-- The last step of a failed request, whichever it is, empties the buffer the request was filling (R613). -/
theorem failed_request_mem {s t : State} (hw : whoMoves s = .controller) (h : advance s = .next t)
    (hlast : s.phase = .errorExit ∨ (s.csN = true ∧ exchangePhase s.phase ∧ cardReply s = none) ∨
      (Inv s ∧ s.busy = true ∧ t.busy = false ∧ t.err ≠ .none)) : t.mem = (forgetFilled s).mem := by
  rcases hlast with hp | ⟨hcs, hx, hr⟩ | ⟨hi, hb, ht, he⟩
  · obtain rfl := Host.Outcome.next.inj ((advance_of_errorExit hw hp).symm.trans h)
    exact forgetFilled_mem_congr rfl rfl
  · obtain rfl := Host.Outcome.next.inj ((advance_of_failure hw hx hr).symm.trans h)
    have emptied := raise_deselected_mem (e := .busError) (s := exchange (exchangedByte s) (takeTurn s)) hcs
    exact emptied.trans (forgetFilled_mem_congr rfl rfl)
  · obtain ⟨l, r, tr, ca, d, hf⟩ := advance_follows h hw (hi.busy_iff.1 hb)
    exact (follows_failed_mem hf hb ht he (hi.no_error_yet hb)).trans (forgetFilled_mem_congr rfl rfl)

end Sys2Proof.Machine
end

section
/-! SUPPORT. What presenting a request comes to in each of its cases, and which moves set the refusal mark
(spec/60_exceptions.md R611, R620, R622). -/

namespace Sys2Proof.Machine

/-! ### Acceptance and refusal -/

/-- The reserved opcodes 0x00 and 0x06 to 0xFF decode to no request (R323). -/
theorem decodeOpcode_reserved {op : Byte} (h : op = 0 ∨ 6 ≤ op.toNat) : ∃ e, decodeOpcode op = .error e := by
  cases hd : decodeOpcode op with
  | error e => exact ⟨e, rfl⟩
  | ok i =>
    rcases decodeOpcode_ok hd with ⟨rfl, -⟩ | ⟨rfl, -⟩ | ⟨rfl, -⟩ | ⟨rfl, -⟩ | ⟨rfl, -⟩ <;> exact absurd h (by decide)

section Present

variable {op : Byte} {needsReady : Bool} {start : State → State} {s : State} (idle : s.busy = false)

include idle

theorem present_accepted (ready : s.ready = needsReady) : present op needsReady start s = start (accept op s) := by
  rw [present, idle, if_neg Bool.false_ne_true, if_pos ready]

theorem present_refused (ready : s.ready ≠ needsReady) :
    present op needsReady start s = refuse (if needsReady then .notInitialized else .alreadyInitialized) s := by
  rw [present, idle, if_neg Bool.false_ne_true, if_neg ready]

/-- An idle block refuses a reserved opcode as such (R323, R620). -/
theorem runRequest_reserved {v : Word} (hv : v.extractLsb' 0 8 = 0 ∨ 6 ≤ (v.extractLsb' 0 8).toNat) :
    runRequest v s = .next (refuse .reservedOp s) := by
  obtain ⟨e, he⟩ := decodeOpcode_reserved hv
  rw [runRequest, decodeRequest, he]
  simp only [presentReserved, idle, Bool.false_eq_true, if_false]

end Present

/-- A request word never stops the machine (R614, R620). -/
theorem runRequest_next (v : Word) (s : State) : ∃ t, runRequest v s = .next t := by
  unfold runRequest
  split
  · exact exec_next _ s
  · exact ⟨_, rfl⟩

/-! ### The refusal mark -/

/-- No line after a bus event writes the refusal mark. -/
theorem follows_refusalMark {s t : State} (h : Follows s t) : t.refusalMark = s.refusalMark := by
  have raised (e : Error) (u : State) : (raise e u).refusalMark = u.refusalMark := by rw [raise_eq]
  cases h with
  | raises e => exact raised e s
  | rejected k d => exact raised _ _
  | leaves => exact leaveError_refusalMark s
  | ended c r t _ ends =>
    cases ends with
    | fails e v => exact raised e _
    | _ => rfl
  | _ => rfl

/-- A move of the controller leaves the refusal mark alone (R622). -/
theorem advance_controller_refusalMark {s t : State} (h : advance s = .next t) (hw : whoMoves s = .controller) :
    t.refusalMark = s.refusalMark := by
  by_cases hidle : s.phase = .idle
  · rw [advance_controller_idle h hw hidle, takeTurn_refusalMark]
  · obtain ⟨l, r, tr, ca, d, hf⟩ := advance_follows h hw hidle
    have kept := follows_refusalMark hf
    exact kept

/-- No move of the host clears the refusal mark (R622). -/
theorem advance_host_keepsMark {s t : State} (h : advance s = .next t) (hw : whoMoves s = .host)
    (hm : s.refusalMark = true) : t.refusalMark = true := by
  rcases advance_host h hw with hd | ⟨v, -, hp⟩
  · cases hd with
    | marked => rfl
    | own | wroteAddr | wroteBuf => exact hm
  · cases hp with
    | violates => rfl
    | refused => exact hm
    | accepted i op => rw [requestStart_eq]; exact hm

/-- The platform's reset keeps the refusal mark (R622). -/
theorem advance_reset_refusalMark {s t : State} (h : advance s = .next t) (hw : whoMoves s = .platformReset) :
    t.refusalMark = s.refusalMark := by
  rcases advance_cases h with ⟨-, rfl⟩ | ⟨hw', -⟩ | ⟨hw', -⟩
  · rfl
  · exact nomatch hw.symm.trans hw'
  · exact nomatch hw.symm.trans hw'

/-! ### The host's violations -/

/-- The host's line is an access R622 forbids: one that is not well-formed, or a write while BUSY = 1. -/
def ViolatingLine (s : State) : Prop :=
  (∃ w off v, s.program[s.hpc]? = some (.wr w off v) ∧ (s.busy = true ∨ wellFormedAccess w off = false)) ∨
  (∃ w off, s.program[s.hpc]? = some (.rd w off) ∧ wellFormedAccess w off = false)

/-- A violating access answers a next state, with HOST_VIOLATION and the refusal mark set (R213, R622). -/
theorem step_of_violatingLine {s : State} (hm : s.refusalMark = false) (hw : whoMoves s = .host)
    (hv : ViolatingLine s) : ∃ t, step s = .next t ∧ t.hostViolation = true ∧ t.refusalMark = true := by
  rcases hv with ⟨w, off, v, hl, hv⟩ | ⟨w, off, hl, hwf⟩
  · exact ⟨_, step_of_violatingWrite hm hw hl hv.symm, rfl, rfl⟩
  · refine ⟨_, step_of_read hm hw hl, ?_⟩
    rw [portRead_illFormed hwf]
    exact ⟨rfl, rfl⟩

theorem portRead_refusalMark {w : Width} {off : Offset} (s : State) (hwf : wellFormedAccess w off = true) :
    (portRead w off s).refusalMark = s.refusalMark := by
  show (afterRead w off s).refusalMark = _
  rw [afterRead, if_pos hwf]
  split
  · rfl
  · split <;> rfl

theorem idleWrite_refusalMark (off : Offset) (v : Word) (s : State) :
    (idleWrite off v s).refusalMark = s.refusalMark := by
  unfold idleWrite
  split <;> rfl

/-- A line that violates nothing sets no refusal mark, a request it presents apart. -/
theorem hostMove_refusalMark {s : State} (hv : ¬ ViolatingLine s) :
    (hostMove s).state.refusalMark = s.refusalMark := by
  unfold hostMove
  cases hl : s.program[s.hpc]? with
  | none => rfl
  | some line =>
    cases line with
    | halt | branch target => rfl
    | waitIdle | berr target =>
      dsimp only [HostMove.state]
      rw [readStatusThen_eq]
    | rd w off =>
      have hwf : wellFormedAccess w off = true := by
        by_contra h
        exact hv (.inr ⟨w, off, hl, by simpa using h⟩)
      exact portRead_refusalMark _ hwf
    | wr w off v =>
      have hwf : wellFormedAccess w off = true := by
        by_contra h
        exact hv (.inl ⟨w, off, v, hl, .inr (by simpa using h)⟩)
      have hb : s.busy = false := by
        by_contra h
        exact hv (.inl ⟨w, off, v, hl, .inl (by simpa using h)⟩)
      dsimp only
      split
      · rfl
      · exact (congrArg State.refusalMark (portWrite_idle (s := { s with hpc := s.hpc + 1 }) v hwf hb)).trans
          (idleWrite_refusalMark off v _)

/-- With BUSY = 0 a request word sets no refusal mark (R622). -/
theorem runRequest_refusalMark {v : Word} {s t : State} (h : runRequest v s = .next t) (hb : s.busy = false) :
    t.refusalMark = s.refusalMark := by
  cases runRequest_presented h with
  | violates busy => exact nomatch hb.symm.trans busy
  | refused => rfl
  | accepted i op => rw [requestStart_eq]; rfl

/-- A move of the host that violates nothing leaves the refusal mark alone. -/
theorem advance_host_refusalMark {s t : State} (h : advance s = .next t) (hw : whoMoves s = .host)
    (hv : ¬ ViolatingLine s) : t.refusalMark = s.refusalMark := by
  have hmark : (hostMove (takeTurn s)).state.refusalMark = s.refusalMark := hostMove_refusalMark (s := takeTurn s) hv
  rcases advance_cases h with ⟨hw', -⟩ | ⟨-, hm⟩ | ⟨hw', -⟩
  · exact nomatch hw.symm.trans hw'
  · rcases hostMove_cases (takeTurn s) with ⟨u, e, -⟩ | ⟨v, hl, e⟩
    · rcases hm with hm | ⟨v, u', hm, -⟩
      · rwa [hm] at hmark
      · exact nomatch e.symm.trans hm
    · have hb : s.busy = false := by
        by_contra hb
        exact hv (.inl ⟨.word, 0x000, v, hl, .inl (by simpa using hb)⟩)
      rcases hm with hm | ⟨v', u, hm, hr⟩
      · exact nomatch e.symm.trans hm
      · obtain ⟨rfl, rfl⟩ := HostMove.request.inj (e.symm.trans hm)
        have kept := runRequest_refusalMark hr hb
        exact kept
  · exact nomatch hw.symm.trans hw'

/-- An unmarked run becomes marked by the host's violating access alone, which sets HOST_VIOLATION too (R622). -/
theorem step_marks {s t : State} (h : step s = .next t) (ht : t.refusalMark = true) :
    whoMoves s = .host ∧ t.hostViolation = true ∧ ViolatingLine s := by
  obtain ⟨hm, ha⟩ := advance_of_step h
  have marked : t.refusalMark ≠ s.refusalMark := by simp [hm, ht]
  cases hw : whoMoves s with
  | controller => exact absurd (advance_controller_refusalMark ha hw) marked
  | platformReset => exact absurd (advance_reset_refusalMark ha hw) marked
  | host =>
    have hv : ViolatingLine s := by
      by_contra hv
      exact marked (advance_host_refusalMark ha hw hv)
    obtain ⟨u, hu, violation, -⟩ := step_of_violatingLine hm hw hv
    obtain rfl := Host.Outcome.next.inj (hu.symm.trans h)
    exact ⟨rfl, violation, hv⟩

/-! ### No stop -/

/-- The frame that stands ready under the invariant decodes (R411). -/
theorem issue_decodes {s : State} {f : FrameWord} (h : positionOk s) (hp : s.phase = .issue f) :
    ∃ i, decodeFrame f = .ok i := by
  simp only [positionOk, hp] at h
  obtain ⟨c, -, rfl⟩ := h
  exact ⟨_, decodeFrame_assembleFrame _ c s.aLat⟩

/-- Under the invariant every agent's move answers a next state (R614, R616). -/
theorem advance_next {s : State} (hi : Inv s) : ∃ t, advance s = .next t := by
  cases hw : whoMoves s with
  | platformReset => exact ⟨platformReset (takeTurn s), by simp only [advance, hw]⟩
  | host =>
    cases hm : hostMove (takeTurn s) with
    | done t => exact ⟨t, by simp only [advance, hw, hostTurn, hm]⟩
    | request v t => simpa only [advance, hw, hostTurn, hm] using runRequest_next v t
  | controller =>
    by_cases hf : ∃ f, s.phase = .issue f
    · obtain ⟨f, hp⟩ := hf
      obtain ⟨i, hd⟩ := issue_decodes hi.position hp
      rw [advance_of_issue hw hp, runFrame, hd]
      exact exec_next i (takeTurn s)
    · exact ⟨_, advance_of_seqStep hw fun f hp => hf ⟨f, hp⟩⟩

end Sys2Proof.Machine
end

section
/-! The statements of the exceptions file (spec/60_exceptions.md). -/

namespace Sys2Proof.Proofs

open Sys2Proof Sys2Proof.Machine

/-- Settles O17: the step raises BusError in every exchange phase (`advance_of_failure`), and `raise` writes the rest. -/
theorem failedExchangeRaisesBusError : Obligations.FailedExchangeRaisesBusError := by
  unfold Obligations.FailedExchangeRaisesBusError
  intro s mark turn phase failure
  have event : (exchange (exchangedByte s) (takeTurn s)).trace = s.trace ++ [.xfer (exchangedByte s) none] := by
    rw [← failure]
    rfl
  obtain ⟨trace, csN, -, -, -, outside, inside, site⟩ := raise_busError (exchange (exchangedByte s) (takeTurn s))
  obtain ⟨-, -, -, state⟩ := raise_errorFields .busError (exchange (exchangedByte s) (takeTurn s))
  refine ⟨_, (step_unmarked mark).trans (advance_of_failure turn phase failure), trace.trans event, inside, outside,
    site, state, by rw [raise_eq]; rfl, csN, fun selected => ?_, fun deselected => ?_⟩
  · rw [raise_selected (s := exchange (exchangedByte s) (takeTurn s)) selected]
    exact ⟨rfl, rfl, rfl, fun _ => rfl⟩
  · rw [raise_deselected (s := exchange (exchangedByte s) (takeTurn s)) deselected, leaveError_eq]
    exact ⟨rfl, rfl, rfl⟩

/-- Settles O19: the ERR fields of a raised error, read inside INIT and outside. -/
theorem raisedErrorCodes : Obligations.RaisedErrorCodes := by
  unfold Obligations.RaisedErrorCodes
  intro s e t
  obtain ⟨err, cause, site, state⟩ : t.err = (if s.opLat = opInit then .initializationFailed else e.code) ∧
      t.errCause = (if s.opLat = opInit then e.innerCause else e.cause) ∧ t.errSite = e.site ∧
      t.errState = s.seqState := raise_errorFields e s
  have inside (h : s.opLat = 0x01) : t.err = .initializationFailed ∧ t.errCause = e.innerCause :=
    ⟨err.trans (if_pos h), cause.trans (if_pos h)⟩
  have outside (h : s.opLat ≠ 0x01) : t.err = e.code ∧ t.errCause = e.cause :=
    ⟨err.trans (if_neg h), cause.trans (if_neg h)⟩
  refine ⟨state, fun h => ?_, ?_, ?_, ?_, ?_, ?_, ?_⟩
  · rw [(inside h).1]
    rfl
  · rintro h rfl
    rw [(inside h).2, site]
    exact ⟨rfl, rfl⟩
  · rintro h at_ rfl
    rw [(inside h).2, site]
    exact ⟨rfl, rfl⟩
  · rintro h rfl
    rw [(inside h).2, site]
    exact ⟨rfl, rfl⟩
  · rintro h rfl
    rw [(outside h).1, (outside h).2, site]
    exact ⟨rfl, rfl, rfl⟩
  · rintro h at_ rfl
    rw [(outside h).1, (outside h).2, site]
    exact ⟨rfl, rfl, rfl⟩
  · rintro h d rfl
    rw [(outside h).1, (outside h).2, site]
    exact ⟨rfl, rfl, rejectCause_code d⟩

/-- Settles O20: whichever step is the last, the memory it leaves is `forgetFilled`'s. -/
theorem failedFillHoldsNoValue : Obligations.FailedFillHoldsNoValue := by
  unfold Obligations.FailedFillHoldsNoValue
  intro s t turn h last
  have mem := failed_request_mem turn (advance_of_step h).2 last
  rw [forgetFilled_mem] at mem
  have forgotten {base n : Nat} (hm : t.mem = s.mem.forget base n) :
      (∀ i, i < n → t.byteAt (base + i) = none) ∧ ∀ a, a < base ∨ base + n ≤ a → t.byteAt a = s.byteAt a := by
    simp only [State.byteAt, hm]
    exact ⟨fun i hi => memory_read_forget_inside _ (Nat.le_add_right ..) (Nat.add_lt_add_left hi _),
      fun a ha => memory_read_forget_outside _ ha⟩
  refine ⟨fun hop => ?_, fun hop => ?_, fun h2 h4 h5 a => ?_⟩
  · exact forgotten (mem.trans (if_pos hop))
  · have other : s.opLat ≠ opReadBlock := by rcases hop with hop | hop <;> rw [hop] <;> decide
    exact forgotten (mem.trans ((if_neg other).trans (if_pos hop)))
  · have kept : t.mem = s.mem := mem.trans ((if_neg h2).trans (if_neg (not_or.2 ⟨h4, h5⟩)))
    exact congrArg (Memory.read · a) kept

/-- Settles O56: without a refusal mark the step is a move of one agent, and `advance_next` says each answers. -/
theorem goodStatesNeverStop : Obligations.GoodStatesNeverStop := by
  unfold Obligations.GoodStatesNeverStop
  intro s hi mark
  rw [step_unmarked mark]
  exact advance_next hi

/-- Settles O58: no move clears the mark, `step_marks` says which step sets it, and `step_of_violatingLine` that every
violating access does. -/
theorem hostViolationEndsTheRun : Obligations.HostViolationEndsTheRun := by
  unfold Obligations.HostViolationEndsTheRun
  refine ⟨fun s mark => if_pos mark, fun s => step_unmarked, fun s t h mark => ?_, fun s t => step_marks,
    fun s w off mark turn violating => step_of_violatingLine mark turn ?_⟩
  · cases hw : whoMoves s with
    | host => exact advance_host_keepsMark h hw mark
    | controller => exact (advance_controller_refusalMark h hw).trans mark
    | platformReset => exact (advance_reset_refusalMark h hw).trans mark
  · rcases violating with ⟨⟨v, line⟩, bad⟩ | ⟨line, bad⟩
    · exact .inl ⟨w, off, v, line, bad⟩
    · exact .inr ⟨w, off, line, bad⟩

/-- Settles O9: each request is accepted, and its own lines follow. -/
theorem acceptedRequestStarts : Obligations.AcceptedRequestStarts := by
  unfold Obligations.AcceptedRequestStarts
  intro s idle
  exact ⟨fun notReady => congrArg _ (present_accepted idle notReady), fun ready =>
    ⟨congrArg _ (present_accepted idle ready), congrArg _ (present_accepted idle ready),
      congrArg _ (present_accepted idle ready), congrArg _ (present_accepted idle ready)⟩⟩

/-- Settles O10: a reserved opcode, and a request whose READY is not as it needs, are `refuse`. -/
theorem refusedRequestWritesErrOnly : Obligations.RefusedRequestWritesErrOnly := by
  unfold Obligations.RefusedRequestWritesErrOnly
  intro s idle
  refine ⟨fun v reserved => runRequest_reserved idle reserved, fun ready => ?_, fun notReady i hi => ?_⟩
  · have other : s.ready ≠ false := by simp [ready]
    exact congrArg _ (present_refused idle other)
  · have other : s.ready ≠ true := by simp [notReady]
    simp only [List.mem_cons, List.not_mem_nil, or_false] at hi
    rcases hi with rfl | rfl | rfl | rfl <;> exact congrArg _ (present_refused idle other)

/-- Settles O11: a request word while BUSY = 1 is `violation`. -/
theorem busyRequestOnlyMarksViolation : Obligations.BusyRequestOnlyMarksViolation := by
  unfold Obligations.BusyRequestOnlyMarksViolation
  exact fun s busy v => runRequest_busy v busy

/-- Settles O18: the step is `CS(1)` and then `leaveError`, which names every field it writes. -/
theorem errorExitDeselectsAndIdles : Obligations.ErrorExitDeselectsAndIdles := by
  unfold Obligations.ErrorExitDeselectsAndIdles
  intro s mark turn phase
  refine ⟨(forgetFilled (csSet true (takeTurn s))).mem, ?_⟩
  rw [step_unmarked mark, advance_of_errorExit turn phase, leaveError_eq]
  rfl

end Sys2Proof.Proofs
end

section
/-! SUPPORT. The bound on the events a running request has left (spec/70_reset_and_hazards.md R731): what it is where a
transaction starts, and that every step of the controller takes one event at least from it. -/

namespace Sys2Proof.Machine

/-! ### The bound of a transaction and of what follows it -/

theorem stateCmd_of_inTxn {s : State} {c : Cmd} (h : inTxn s c) : stateCmd s.seqState = c := by
  rw [h.1, stateCmd_cmdState]

/-- Before its transaction a request has the transaction and what follows it. -/
theorem eventsLeft_startTxn {s : State} {c : Cmd} (h : stateCmd s.seqState = c) :
    eventsLeft (startTxn c s) = txnBound s.cfg c + afterBound s.cfg s.attempts c := by
  simp only [eventsLeft, startTxn_phase, startTxn_cfg, startTxn_seqState, startTxn_attempts, h]

/-- With no request running no event is left (R731). -/
theorem eventsLeft_idle {s : State} (h : s.phase = .idle) : eventsLeft s = 0 := by
  simp only [eventsLeft, h]

/-- Before the first byte of its tail a transaction has the tail, `End`, and what follows it. -/
theorem eventsLeft_startTail {s : State} {c : Cmd} (h : inTxn s c) :
    eventsLeft (startTail c s) = tailBound s.cfg c + endBound s.cfg + afterBound s.cfg s.attempts c := by
  have hc := stateCmd_of_inTxn h
  cases c <;> simp [startTail, eventsLeft, tailLeft, tailBound, dataSize, hc]

/-- One retry more than the rest of them (R477). -/
theorem retries_split {n limit : Nat} (x : Nat) (h : n < limit) : (limit - n) * x = x + (limit - (n + 1)) * x := by
  rw [show limit - n = limit - (n + 1) + 1 by omega, Nat.succ_mul, Nat.add_comm]

/-- INIT's next attempt is paid for by its retries (R477). -/
theorem afterBound_retry {p : Params} {n : Nat} (h : n < p.opcondRetryLimit) :
    txnBound p .cmd55 + afterBound p n .cmd55 = afterBound p n .acmd41 := by
  simp only [afterBound, retries_split _ h]
  omega

/-- VOLTAGE_CHECK is followed by the first attempt (R471). -/
theorem afterBound_firstAttempt {p : Params} (h : 0 < p.opcondRetryLimit) :
    txnBound p .cmd55 + afterBound p 0 .cmd55 = afterBound p 0 .cmd8 := by
  have hr := retries_split (txnBound p .cmd55 + txnBound p .acmd41) h
  rw [Nat.sub_zero] at hr
  simp only [afterBound, hr]
  omega

/-! ### The ends of requests and of transactions -/

/-- Raising an error leaves the exit's `CsSet(1)`, or nothing where the card is deselected already (R612). -/
theorem eventsLeft_raise (e : Error) (s : State) : eventsLeft (raise e s) = if s.csN then 0 else 1 := by
  cases h : s.csN with
  | true =>
    rw [raise_deselected h]
    exact eventsLeft_idle (leaveError_phase _)
  | false =>
    rw [raise_selected h]
    rfl

/-- The lines after a transaction leave no more than the bound allows what follows it. -/
theorem eventsLeft_endTxn {s : State} {c : Cmd} {r : Option Byte} (b : Running s) (h : inTxn s c) (hs : s.csN = true) :
    eventsLeft (endTxn c r s) ≤ afterBound s.cfg s.attempts c := by
  obtain ⟨v, hv⟩ := storeR1_eq r s
  have att := b.att
  have raised (e : Error) (w : Byte) : eventsLeft (raise e { s with r1 := w }) ≤ afterBound s.cfg s.attempts c := by
    simp [eventsLeft_raise, hs]
  have next {d : Cmd} {t : State} (hd : stateCmd t.seqState = d)
      (le : txnBound t.cfg d + afterBound t.cfg t.attempts d ≤ afterBound s.cfg s.attempts c) :
      eventsLeft (startTxn d t) ≤ afterBound s.cfg s.attempts c := (eventsLeft_startTxn hd).trans_le le
  unfold attemptsOk at att
  cases c with
  | cmd0 =>
    simp only [endTxn, hv, afterReset]
    split
    · exact raised _ v
    · refine next rfl ?_
      simp only [afterBound]
      omega
  | cmd8 =>
    simp only [h.1, cmdState] at att
    have hwf := b.cfg_ok
    simp only [Params.wf, Bool.and_eq_true, decide_eq_true_eq] at hwf
    simp only [endTxn, afterVoltageCheck]
    split
    · exact raised _ s.r1
    · refine next rfl ?_
      simp only [att]
      exact (afterBound_firstAttempt hwf.2).le
  | cmd55 =>
    simp only [endTxn, hv, afterPrefix]
    refine next rfl ?_
    simp only [countAttempt, afterBound]
    omega
  | acmd41 =>
    simp only [h.1, cmdState] at att
    simp only [endTxn, hv, afterOpCond]
    split
    · split
      · exact raised _ v
      · next hlimit =>
        have hlt : s.attempts < s.cfg.opcondRetryLimit := Nat.lt_of_le_of_ne att.2 hlimit
        exact next rfl (afterBound_retry hlt).le
    · refine next rfl ?_
      simp only [afterBound]
      omega
  | cmd58 =>
    simp only [endTxn, afterReadOcr]
    split
    · exact raised _ s.r1
    · split
      · next hraise => simp [eventsLeft, afterBound, clkEvents, hraise]
      · exact Nat.zero_le _
  | cmd17 => exact Nat.zero_le _
  | cmd24 => exact Nat.zero_le _
  | cmd9 =>
    simp only [endTxn, afterCsd]
    split <;> exact Nat.zero_le _

end Sys2Proof.Machine
end

section
/-! SUPPORT. Every step of the sequencer lowers the bound on the events left, phase by phase
(spec/70_reset_and_hazards.md R731, spec/42_bus_transactions.md R441). -/

namespace Sys2Proof.Machine

/-! ### An exchange and its failure -/

/-- After its own event the bound still covers what a failed exchange goes on to record: the exit's `CsSet(1)`, or
nothing where the card is deselected (R604, R612). -/
def PaysForExit (s : State) : Prop := (if s.csN then 0 else 1) < eventsLeft s

/-- The counters are within their ranges, so the bound of every exchange covers its failure. -/
theorem paysForExit_of_inv {s : State} (hi : Inv s) (hx : exchangePhase s.phase) : PaysForExit s := by
  have pos := hi.position
  have level := hi.level
  unfold positionOk at pos
  unfold PaysForExit
  rw [level]
  cases hp : s.phase with
  | idle | clkSlow | preambleCs | select | deselect | clkFast | errorExit =>
    rw [hp] at hx
    exact hx.elim
  | powerDummy k | postDummy c r k =>
    simp only [hp] at pos
    simp only [phaseLevel, eventsLeft, hp, if_true]
    omega
  | preDummy | issue | sendToken | sendCrc0 | sendCrc1 =>
    simp only [phaseLevel, eventsLeft, tailLeft, endBound, hp, Bool.false_eq_true, if_false]
    omega
  | frame | pollR1 | readFour | pollToken | readData | trailer | sendData | pollDresp | pollBusy =>
    simp only [hp] at pos
    simp only [phaseLevel, eventsLeft, tailLeft, endBound, hp, Bool.false_eq_true, if_false]
    omega

section Exchanges

variable {s : State} (pays : PaysForExit s)

include pays

theorem raise_lowers (e : Error) (o : Byte) : eventsLeft (raise e (exchange o s)) < eventsLeft s := by
  rw [eventsLeft_raise]
  exact pays

theorem spiXfer_lowers {o : Byte} {use : Byte → State → State}
    (hu : ∀ v, eventsLeft (use v (exchange o s)) < eventsLeft s) : eventsLeft (spiXfer o use s) < eventsLeft s := by
  rcases spiXfer_cases o use s with ⟨v, -, e⟩ | ⟨-, e⟩ <;> rw [e]
  · exact hu v
  · exact raise_lowers pays _ o

theorem sendByte_lowers {o : Byte} {next : State → State}
    (hn : eventsLeft (next (exchange o s)) < eventsLeft s) : eventsLeft (sendByte o next s) < eventsLeft s :=
  spiXfer_lowers pays fun _ => hn

/-- A poll lowers the bound if its match and its next byte do (R441). -/
theorem poll_lowers {hit : Byte → Bool} {limit : Nat} {site : ErrSite} {k : Nat} {again : Nat → Phase}
    {found : Byte → State → State} (hf : ∀ v, eventsLeft (found v (exchange dummyByte s)) < eventsLeft s)
    (ha : k < limit → eventsLeft { exchange dummyByte s with phase := again (k + 1) } < eventsLeft s) :
    eventsLeft (poll hit limit site k again found s) < eventsLeft s := by
  rcases poll_cases hit limit site k again found s with
    ⟨v, -, -, e⟩ | ⟨v, -, -, hk, e⟩ | ⟨v, -, -, -, e⟩ | ⟨-, e⟩ <;> rw [e]
  · exact hf v
  · exact ha hk
  · exact raise_lowers pays _ _
  · exact raise_lowers pays _ _

end Exchanges

/-! ### The lines after a bus event -/

theorem enterLoop_lowers {n m : Nat} {first : Phase} {done : State → State} {s : State}
    (hf : 0 < n → eventsLeft { s with phase := first } < m) (hd : n = 0 → eventsLeft (done s) < m) :
    eventsLeft (enterLoop n first done s) < m := by
  rcases enterLoop_cases n first done s with ⟨hn, e⟩ | ⟨hn, e⟩ <;> rw [e]
  · exact hf hn
  · exact hd hn

theorem nextIteration_lowers {k n m : Nat} {again : Nat → Phase} {done : State → State} {s : State}
    (ha : k < n → eventsLeft { s with phase := again (k + 1) } < m) (hd : eventsLeft (done s) < m) :
    eventsLeft (nextIteration k n again done s) < m := by
  rcases nextIteration_cases k n again done s with ⟨hk, e⟩ | ⟨-, e⟩ <;> rw [e]
  · exact ha hk
  · exact hd

/-! ### The tail of a transaction -/

/-- In the tail of a transaction the rest of it, `End` and what follows it are left (R432). -/
theorem eventsLeft_tail {s : State} (h : 0 < tailLeft s.cfg s.phase) :
    eventsLeft s =
      tailLeft s.cfg s.phase + endBound s.cfg + afterBound s.cfg s.attempts (stateCmd s.seqState) := by
  unfold eventsLeft
  cases hp : s.phase with
  | idle | clkSlow | preambleCs | powerDummy | select | preDummy | issue | frame | deselect | postDummy | clkFast
    | errorExit =>
    rw [hp] at h
    exact nomatch h
  | _ => rfl

/-- A tail with fewer events left lowers the bound. -/
theorem tail_lowers {s : State} {q : Phase} (hq : 0 < tailLeft s.cfg q ∧ tailLeft s.cfg q < tailLeft s.cfg s.phase) :
    eventsLeft { s with phase := q } < eventsLeft s := by
  rw [eventsLeft_tail (s := { s with phase := q }) hq.1, eventsLeft_tail (hq.1.trans hq.2)]
  exact Nat.add_lt_add_right (Nat.add_lt_add_right hq.2 _) _

theorem exchange_tail_lowers {s : State} {o : Byte} {q : Phase}
    (hq : 0 < tailLeft s.cfg q ∧ tailLeft s.cfg q < tailLeft s.cfg s.phase) :
    eventsLeft { exchange o s with phase := q } < eventsLeft s :=
  tail_lowers (s := exchange o s) hq

/-- The end of a tail lowers the bound (R434). -/
theorem startEnd_lowers {s : State} (c : Cmd) (r : Option Byte) (h : 0 < tailLeft s.cfg s.phase) :
    eventsLeft (startEnd c r s) < eventsLeft s := by
  have hend : eventsLeft (startEnd c r s) =
      endBound s.cfg + afterBound s.cfg s.attempts (stateCmd s.seqState) := rfl
  rw [hend, eventsLeft_tail h]
  omega

theorem exchange_startEnd_lowers {s : State} {o : Byte} {c : Cmd} {r : Option Byte} (h : 0 < tailLeft s.cfg s.phase) :
    eventsLeft (startEnd c r (exchange o s)) < eventsLeft s :=
  startEnd_lowers (s := exchange o s) c r h

/-- The first byte of a response is followed by four more, or by `End` (R442, R446). -/
theorem gotR1_lowers {s : State} {c : Cmd} {k : Nat} (v : Byte) (hp : s.phase = .pollR1 c k)
    (hk : k ≤ s.cfg.r1PollLimit) : eventsLeft (gotR1 c v s) < eventsLeft s := by
  cases c with
  | cmd8 | cmd58 =>
    refine tail_lowers (s := { s with r1 := v }) ?_
    simp only [tailLeft, hp]
    omega
  | cmd0 | cmd55 | acmd41 | cmd17 | cmd24 | cmd9 =>
    refine startEnd_lowers _ _ ?_
    simp only [tailLeft, hp]
    omega

theorem gotFour_lowers {s : State} {c : Cmd} {j : Nat} {u : Word} (v : Word) (hp : s.phase = .readFour c j u)
    (hj : j ≤ 4) : eventsLeft (gotFour c v s) < eventsLeft s := by
  have left : 0 < tailLeft s.cfg s.phase := by
    simp only [tailLeft, hp]
    omega
  cases c with
  | cmd8 => exact startEnd_lowers (s := { s with r7 := v }) _ _ left
  | cmd58 => exact startEnd_lowers (s := { s with ocr := v }) _ _ left
  | cmd0 | cmd55 | acmd41 | cmd17 | cmd24 | cmd9 => exact startEnd_lowers _ _ left

theorem gotData_lowers {s : State} {c : Cmd} {i : Nat} (v : Byte) (hp : s.phase = .readData c i)
    (hi : i < dataSize c) : eventsLeft (gotData c i v s) < eventsLeft s := by
  unfold gotData
  split
  · refine tail_lowers (s := s.writeByte (dataBase c + i) v) ?_
    simp only [tailLeft, State.writeByte, hp]
    omega
  · refine enterLoop_lowers (fun hn => ?_) (fun _ => ?_)
    · refine tail_lowers (s := s.writeByte (dataBase c + i) v) ?_
      simp only [tailLeft, State.writeByte, hp] at hn ⊢
      omega
    · refine startEnd_lowers (s := s.writeByte (dataBase c + i) v) _ _ ?_
      simp only [tailLeft, State.writeByte, hp]
      omega

/-- A data-response token is followed by the busy wait, by `End`, or by the exit of a rejected write (R512, R513). -/
theorem gotDataResponse_lowers {s : State} {k : Nat} (d : Byte) (pays : PaysForExit s) (hp : s.phase = .pollDresp k)
    (hk : k ≤ s.cfg.drespPollLimit) (hbusy : 1 ≤ s.cfg.busyPollLimit) :
    eventsLeft (gotDataResponse d s) < eventsLeft s := by
  unfold gotDataResponse
  dsimp only
  split
  · split
    · next hwait =>
      refine tail_lowers (s := { s with dresp := d }) ?_
      simp only [tailLeft, busyEvents, hp, hwait, if_true]
      omega
    · refine startEnd_lowers (s := { s with dresp := d }) _ _ ?_
      simp only [tailLeft, hp]
      omega
  · rw [eventsLeft_raise]
    exact pays

/-! ### The sequencer -/

/-- Every step of the sequencer takes at least one event from the bound, whatever the card answers (R441, R731). -/
theorem seqStep_lowers {s : State} (hi : Inv s) (hidle : s.phase ≠ .idle) (hissue : ∀ f, s.phase ≠ .issue f) :
    eventsLeft (seqStep s) < eventsLeft s := by
  have pos := hi.position
  have level := hi.level
  have hwf := hi.cfg_ok
  simp only [Params.wf, Bool.and_eq_true, decide_eq_true_eq] at hwf
  obtain ⟨⟨⟨-, hdresp⟩, hbusy⟩, -⟩ := hwf
  have pays (hx : exchangePhase s.phase) : PaysForExit s := paysForExit_of_inv hi hx
  unfold positionOk at pos
  unfold seqStep
  cases hp : s.phase with
  | idle => exact absurd hp hidle
  | issue f => exact absurd hp (hissue f)
  | clkSlow =>
    simp only [eventsLeft, hp, clkSet_cfg]
    omega
  | preambleCs =>
    simp only [hp] at pos
    obtain ⟨hq, -, -⟩ := pos
    refine enterLoop_lowers (fun hn => ?_) (fun hn => ?_)
    · simp only [eventsLeft, hp, csSet_cfg]
      omega
    · rw [eventsLeft_startTxn (c := .cmd0) (by rw [csSet_seqState, hq]; rfl)]
      simp only [eventsLeft, hp, csSet_cfg, afterBound]
      omega
  | powerDummy k =>
    simp only [hp] at pos
    obtain ⟨⟨hq, -, -⟩, -, hk⟩ := pos
    refine sendByte_lowers (pays (hp ▸ trivial)) (nextIteration_lowers (fun hlt => ?_) ?_)
    · simp only [eventsLeft, hp, exchange_cfg]
      omega
    · rw [eventsLeft_startTxn (c := .cmd0) (by rw [exchange_seqState, hq]; rfl)]
      simp only [eventsLeft, hp, exchange_cfg, afterBound]
      omega
  | select c =>
    refine enterLoop_lowers (fun hn => ?_) (fun hn => ?_)
    all_goals
      simp only [eventsLeft, readyFrame, hp, csSet_cfg, csSet_seqState, csSet_attempts, txnBound]
      omega
  | preDummy c k =>
    simp only [hp] at pos
    obtain ⟨-, -, hk⟩ := pos
    refine sendByte_lowers (pays (hp ▸ trivial)) (nextIteration_lowers (fun hlt => ?_) ?_)
    all_goals
      simp only [eventsLeft, readyFrame, hp, exchange_cfg, exchange_seqState, exchange_attempts]
      omega
  | frame c f j =>
    simp only [hp] at pos
    obtain ⟨hin, -, -, hj⟩ := pos
    refine sendByte_lowers (pays (hp ▸ trivial)) ?_
    split
    · simp only [eventsLeft, hp, exchange_cfg, exchange_seqState, exchange_attempts]
      omega
    · rw [eventsLeft_startTail (s := exchange _ s) hin]
      simp only [eventsLeft, hp, stateCmd_of_inTxn hin, exchange_cfg, exchange_attempts]
      omega
  | pollR1 c k =>
    simp only [hp] at pos
    obtain ⟨-, -, -, hk⟩ := pos
    refine poll_lowers (pays (hp ▸ trivial)) (fun v => gotR1_lowers (s := exchange _ s) v hp hk)
      (fun _ => exchange_tail_lowers ?_)
    simp only [tailLeft, hp]
    omega
  | readFour c j u =>
    simp only [hp] at pos
    obtain ⟨-, -, -, hj⟩ := pos
    refine spiXfer_lowers (pays (hp ▸ trivial)) (fun v => ?_)
    split
    · refine exchange_tail_lowers ?_
      simp only [tailLeft, hp]
      omega
    · exact gotFour_lowers (s := exchange _ s) _ hp hj
  | pollToken c k =>
    simp only [hp] at pos
    obtain ⟨-, hc, -, hk⟩ := pos
    have hsize : 0 < dataSize c := by rcases hc with rfl | rfl <;> decide
    refine poll_lowers (pays (hp ▸ trivial)) (fun _ => exchange_tail_lowers ?_) (fun _ => exchange_tail_lowers ?_)
    all_goals
      simp only [tailLeft, hp]
      omega
  | readData c i =>
    simp only [hp] at pos
    obtain ⟨-, -, hlt⟩ := pos
    exact spiXfer_lowers (pays (hp ▸ trivial)) (fun v => gotData_lowers (s := exchange _ s) v hp hlt)
  | trailer c j =>
    simp only [hp] at pos
    obtain ⟨-, -, -, hj⟩ := pos
    refine sendByte_lowers (pays (hp ▸ trivial))
      (nextIteration_lowers (fun _ => exchange_tail_lowers ?_) (exchange_startEnd_lowers ?_))
    all_goals
      simp only [tailLeft, hp]
      omega
  | sendToken =>
    refine sendByte_lowers (pays (hp ▸ trivial)) (exchange_tail_lowers ?_)
    simp only [tailLeft, hp]
    omega
  | sendData i =>
    simp only [hp] at pos
    obtain ⟨-, hlt⟩ := pos
    refine sendByte_lowers (pays (hp ▸ trivial)) ?_
    split
    all_goals
      refine exchange_tail_lowers ?_
      simp only [tailLeft, hp]
      omega
  | sendCrc0 =>
    refine sendByte_lowers (pays (hp ▸ trivial)) (exchange_tail_lowers ?_)
    simp only [tailLeft, hp]
    omega
  | sendCrc1 =>
    refine sendByte_lowers (pays (hp ▸ trivial)) (exchange_tail_lowers ?_)
    simp only [tailLeft, hp]
    omega
  | pollDresp k =>
    simp only [hp] at pos
    obtain ⟨-, -, hk⟩ := pos
    have hpays := pays (hp ▸ trivial)
    refine poll_lowers hpays (fun d => gotDataResponse_lowers (s := exchange _ s) d hpays hp hk hbusy)
      (fun _ => exchange_tail_lowers ?_)
    simp only [tailLeft, hp]
    omega
  | pollBusy k =>
    simp only [hp] at pos
    obtain ⟨-, -, -, hk⟩ := pos
    refine poll_lowers (pays (hp ▸ trivial)) (fun _ => exchange_startEnd_lowers ?_) (fun _ => exchange_tail_lowers ?_)
    all_goals
      simp only [tailLeft, hp]
      omega
  | deselect c r =>
    simp only [hp] at pos
    have b : Running (csSet true s) := csSet_running (running_of_inv hi hidle (by simp [hp]))
    refine enterLoop_lowers (fun hn => ?_) (fun hn => ?_)
    · simp only [eventsLeft, endBound, hp, csSet_cfg, csSet_seqState, csSet_attempts]
      omega
    · refine (eventsLeft_endTxn b pos rfl).trans_lt ?_
      simp only [eventsLeft, endBound, hp, stateCmd_of_inTxn pos, csSet_cfg, csSet_attempts]
      omega
  | postDummy c r k =>
    simp only [hp] at pos level
    obtain ⟨hin, -, hk⟩ := pos
    have b : Running (exchange dummyByte s) := exchange_running (running_of_inv hi hidle (by simp [hp]))
    refine sendByte_lowers (pays (hp ▸ trivial)) (nextIteration_lowers (fun hlt => ?_) ?_)
    · simp only [eventsLeft, hp, exchange_cfg, exchange_seqState, exchange_attempts]
      omega
    · refine (eventsLeft_endTxn b hin level).trans_lt ?_
      simp only [eventsLeft, hp, stateCmd_of_inTxn hin, exchange_cfg, exchange_attempts]
      omega
  | clkFast =>
    rw [eventsLeft_idle rfl]
    simp only [eventsLeft, hp, Nat.zero_lt_one]
  | errorExit =>
    rw [eventsLeft_idle (leaveError_phase _)]
    simp only [eventsLeft, hp, Nat.zero_lt_one]

/-- The frame that stands ready takes an event from the bound as its first byte is sent (R402). -/
theorem sendFrame_lowers {s : State} {f g : FrameWord} (c : Cmd) (hi : Inv s) (hp : s.phase = .issue f)
    (hd : ∃ i, decodeFrame f = .ok i) : eventsLeft (sendFrame c g s) < eventsLeft s := by
  refine sendByte_lowers (paysForExit_of_inv hi (hp ▸ hd)) ?_
  simp only [eventsLeft, hp, exchange_cfg, exchange_seqState, exchange_attempts]
  omega

/-- Every move of the running controller takes at least one event from the bound (R731). -/
theorem advance_controller_lowers {s t : State} (hi : Inv s) (h : advance s = .next t) (hw : whoMoves s = .controller)
    (hidle : s.phase ≠ .idle) : eventsLeft t < eventsLeft s := by
  have hs : Inv (takeTurn s) := takeTurn_inv hi
  rcases advance_cases h with ⟨hw', -⟩ | ⟨hw', -⟩ | ⟨-, ⟨f, c, a, hp, hd, rfl⟩ | ⟨hissue, rfl⟩⟩
  · exact nomatch hw.symm.trans hw'
  · exact nomatch hw.symm.trans hw'
  · exact sendFrame_lowers (s := takeTurn s) c hs hp ⟨_, hd⟩
  · exact seqStep_lowers hs hidle hissue

end Sys2Proof.Machine
end

section
/-! SUPPORT. A run in which only the controller moves ends its request (spec/00_scope.md R8,
spec/70_reset_and_hazards.md R731), the bound of a request right after its acceptance, and STATUS after a reset. -/

namespace Sys2Proof.Machine

/-! ### Only the controller moves -/

/-- No line after a bus event writes the order of moves. -/
theorem follows_turns {s t : State} (h : Follows s t) : t.turns = s.turns := by
  have raised (e : Error) (u : State) : (raise e u).turns = u.turns := by rw [raise_eq]
  cases h with
  | raises e => exact raised e s
  | rejected k d => exact raised _ _
  | leaves => exact leaveError_turns s
  | ended c r t _ ends =>
    cases ends with
    | fails e v => exact raised e _
    | _ => rfl
  | _ => rfl

theorem advance_controller_turns {s t : State} (h : advance s = .next t) (hw : whoMoves s = .controller)
    (hidle : s.phase ≠ .idle) : t.turns = s.turns.tail := by
  obtain ⟨l, r, tr, ca, d, hf⟩ := advance_follows h hw hidle
  exact follows_turns hf

theorem ControllerOnly.whoMoves_eq {s : State} (h : ControllerOnly s) : whoMoves s = .controller := by
  simp only [whoMoves, h.turns, h.busy, if_true]

/-- A run in which only the controller moves ends the request within the events left, one event a step (R9, R731). -/
theorem controllerRun_ends {s : State} (hi : Inv s) (h : ControllerOnly s) :
    ∃ n u, n ≤ eventsLeft s ∧ steps n s = .next u ∧ Inv u ∧ u.busy = false ∧
      u.trace.length = s.trace.length + n := by
  induction hk : eventsLeft s using Nat.strong_induction_on generalizing s with
  | _ k ih =>
    subst hk
    have hw := h.whoMoves_eq
    have hidle := hi.busy_iff.1 h.busy
    obtain ⟨t, ha⟩ := advance_next hi
    have hstep : step s = .next t := (step_unmarked h.mark).trans ha
    have hlt : eventsLeft t < eventsLeft s := advance_controller_lowers hi ha hw hidle
    have ht : Inv t := advance_inv hi ha
    obtain ⟨e, -, htrace⟩ := (advance_controller_oneEvent ha hw hidle).trace
    have hlen : t.trace.length = s.trace.length + 1 := by simp [htrace]
    cases hb : t.busy with
    | false => exact ⟨1, t, by omega, steps_succ 0 hstep, ht, hb, hlen⟩
    | true =>
      have only : ControllerOnly t :=
        ⟨(advance_controller_refusalMark ha hw).trans h.mark,
          (advance_controller_turns ha hw hidle).trans (by rw [h.turns, List.tail_nil]), hb⟩
      obtain ⟨n, u, hn, hu, hinv, hbu, hlu⟩ := ih _ hlt ht only rfl
      exact ⟨n + 1, u, by omega, (steps_succ n hstep).trans hu, hinv, hbu, by omega⟩

/-- An idle block has the card deselected, and its STATE is READY or UNINIT (R130, R131, R436). -/
theorem idle_outputs {s : State} (hi : Inv s) (hb : s.busy = false) :
    s.csN = true ∧ (s.seqState = .ready ∨ s.seqState = .uninit) := by
  have hp := idle_phase hi hb
  have pos := hi.position
  simp only [positionOk, hp] at pos
  refine ⟨by rw [hi.level, hp]; rfl, ?_⟩
  rw [pos]
  cases s.ready with
  | true => exact .inl rfl
  | false => exact .inr rfl

/-! ### The acceptance -/

/-- A request presented to an idle block that leaves it busy was accepted (R611, R620). -/
theorem exec_accepted {s t : State} {i : Instr}
    (hi : i ∈ [Instr.init, .readBlock, .writeBlock, .readCsd, .getCapacity]) (idle : s.busy = false)
    (h : exec i s = .next t) (busy : t.busy = true) :
    ∃ op, i.opcode = some op ∧ s.ready = decide (i ≠ .init) ∧ t = requestStart i (accept op s) := by
  obtain ⟨op, hop⟩ : ∃ op, i.opcode = some op := by
    simp only [List.mem_cons, List.not_mem_nil, or_false] at hi
    rcases hi with rfl | rfl | rfl | rfl | rfl <;> exact ⟨_, rfl⟩
  rw [exec_request hop] at h
  obtain rfl := Host.Outcome.next.inj h
  rcases present_cases op (decide (i ≠ .init)) (requestStart i) s with ⟨hb, -⟩ | ⟨-, hr, e⟩ | ⟨-, -, e⟩
  · exact nomatch idle.symm.trans hb
  · exact ⟨op, hop, hr, e⟩
  · rw [e, refuse_busy] at busy
    exact nomatch idle.symm.trans busy

/-- INIT sends five commands, two of them once an attempt, and each has a transaction's own events (R471, R731). -/
theorem mostEvents_init (p : Params) :
    2 + p.nPowerupDummy + txnBound p .cmd0 + afterBound p 0 .cmd0 = mostEvents p .init := by
  simp only [afterBound, txnBound, tailBound, endBound, mostEvents]
  ring

/-- After its acceptance a request has the table's events left (R731). -/
theorem eventsLeft_requestStart {i : Instr} {op : Byte} {s : State} (h : i.opcode = some op) :
    eventsLeft (requestStart i (accept op s)) = mostEvents s.cfg i := by
  rcases request_cases h with ⟨rfl, rfl⟩ | ⟨rfl, rfl⟩ | ⟨rfl, rfl⟩ | ⟨rfl, rfl⟩ | ⟨rfl, rfl⟩
  · exact mostEvents_init s.cfg
  all_goals
    refine (eventsLeft_startTxn rfl).trans ?_
    simp only [stateCmd, accept_cfg, afterBound, txnBound, tailBound, endBound, mostEvents, bufSize, csdSize]
    omega

/-! ### Reset -/

/-- STATUS reads 0 after a reset: the card deselected, the clock slow, every flag and code 0 (R112, R135). -/
theorem statusWord_platformReset (s : State) : statusWord (platformReset s) = 0 := by
  simp [statusWord, platformReset, State.resetAt, State.clkFast, State.csActive, placed, ErrCode.code, ErrCause.code,
    ErrSite.code, SeqState.code]

end Sys2Proof.Machine
end

section
/-! The statements of the file on reset and hazards (spec/70_reset_and_hazards.md). -/

namespace Sys2Proof.Proofs

open Sys2Proof Sys2Proof.Machine

/-- Settles O36: the accepting step is `requestStart`, and `eventsLeft_requestStart` computes its bound. -/
theorem acceptedRequestHasTheTableBound : Obligations.AcceptedRequestHasTheTableBound := by
  unfold Obligations.AcceptedRequestHasTheTableBound
  intro s t i hi idle h busy
  obtain ⟨op, hop, -, rfl⟩ := exec_accepted hi idle h busy
  exact eventsLeft_requestStart hop

/-- Settles O37: the move is the controller's, and `advance_controller_lowers` goes through its phases. -/
theorem controllerStepLowersTheBound : Obligations.ControllerStepLowersTheBound := by
  unfold Obligations.ControllerStepLowersTheBound
  intro s t hi busy hw h
  exact advance_controller_lowers hi (advance_of_step h).2 hw (hi.busy_iff.1 busy)

/-- Settles O38: the bound of the acceptance is the table's, and a run of the controller ends within its bound. -/
theorem everyAcceptedRequestEnds : Obligations.EveryAcceptedRequestEnds := by
  unfold Obligations.EveryAcceptedRequestEnds
  intro s t i hs mark turns hi idle h busy
  obtain ⟨op, hop, ready, rfl⟩ := exec_accepted hi idle h busy
  have ht : Inv (requestStart i (accept op s)) := requestStart_inv hs idle hop ready
  have only : ControllerOnly (requestStart i (accept op s)) :=
    ⟨by rw [requestStart_eq]; exact mark, by rw [requestStart_eq]; exact turns, busy⟩
  obtain ⟨n, u, hn, hu, hinv, ended, hlen⟩ := controllerRun_ends ht only
  obtain ⟨level, state⟩ := idle_outputs hinv ended
  exact ⟨n, u, hn.trans_eq (eventsLeft_requestStart hop), hu, ended, level, hlen, state⟩

/-- Settles O46: the platform's move is `platformReset`, which names every value of R135. -/
theorem platformResetFromAnyState : Obligations.PlatformResetFromAnyState := by
  unfold Obligations.PlatformResetFromAnyState
  intro s hw
  have ha : advance s = .next (platformReset (takeTurn s)) := by simp only [advance, hw]
  refine ⟨platformReset (takeTurn s), ha, fun mark => (step_unmarked mark).trans ha, ?_⟩
  exact ⟨rfl, rfl, rfl, rfl, rfl, rfl, rfl, rfl, rfl, rfl, rfl, rfl, rfl, rfl, rfl, rfl, fun _ => rfl, rfl, rfl,
    statusWord_platformReset _⟩

end Sys2Proof.Proofs
end
